-- ==== Sys2Proof/Word.lean ====
section
/-!
DEFINITION. The words of the block: the byte of the bus and the two-bit button code (00_scope.md R13, R14), and the
counts that fix the shape of the machine (R7).
-/

namespace Sys2Proof

/-- A byte on the bus: 8 bits, unsigned, bit 0 the least significant (R13). -/
abbrev Byte := BitVec 8

/-- The 2-bit button code of a sample (30_encoding.md R100). -/
abbrev Code2 := BitVec 2

/-- N_CH of R7: the number of actuator channels, identities 0 to 3. -/
abbrev numChannels : Nat := 4

/-- N_SAMPLE of R7: the bytes of one sample read. -/
abbrev sampleBytes : Nat := 6

/-- N_STATES of R7: the states of the Pulse Scheduler. -/
abbrev numStates : Nat := 5

/-- A channel identity, 0 to 3 (10_state.md R39 b). -/
abbrev Channel := Fin numChannels

end Sys2Proof
end

