-- ==== Sys2Proof/Syntax.lean ====
section
/-!
DEFINITION. The instructions: one constructor for each of the 30 rows of spec/opcode_table.json (30_encoding.md R110
and the wire patterns of its section 1), the words that name them, and the turns by which the outside world moves the
machine.
-/

namespace Sys2Proof

/-- What an acknowledge slot holds (20_memory.md R64). -/
inductive Ack where
  | ack
  | nak
  deriving DecidableEq, Repr, Inhabited

/-- ControlMode of the reference host (10_state.md R40). -/
inductive Mode where
  | neutral
  | translate
  | rotate
  deriving DecidableEq, Repr

/-- The rows of spec/opcode_table.json. Operands are typed and carried beside the operation number (R111). -/
inductive Instr where
  -- Bus Transport (40_bus_transport.md)
  | busInit
  | start
  | stop
  | writeByte (b : Byte)
  | readByte (sendAck : Bool)
  -- Motion Sensor Client (41_sensor_client.md)
  | delaySettle
  | sensorInit
  | requestSample
  | readSample
  -- Pulse Scheduler (42_pulse_scheduler.md)
  | schedInit
  | schedEnable
  | setTarget (i : Nat) (w : Nat)
  | getTick
  | clrTick
  | compareMatch
  -- reference host (43_reference_host.md)
  | clamp (v : Int)
  | scale (raw zero : Byte)
  | mode (btn : Code2) (dx dy : Int)
  | map (dx dy : Int) (m : Mode)
  | boot
  | waitStart
  | cycle
  -- patterns on the wire (30_encoding.md R90, R94, R96, R98, R99)
  | wireByte (b : Byte) (slot9 : Bool)
  | wireAddrW
  | wireAddrR
  | wireInit1
  | wireInit2
  | wireTrig
  | wireSample (x y ax ay az : Byte) (r : BitVec 6) (btn : Code2)
  | wireButtons (r : BitVec 6) (btn : Code2)
  deriving DecidableEq, Repr

/-- Where in the traffic of the bus a wire pattern stands. The patterns of 30_encoding.md section 1 overlap as bits, and
are told apart by their place in the frame only (R90, R94, R96, R98). -/
inductive Place where
  /-- the nine slots of one transfer (R90) -/
  | transfer
  /-- the first byte of a frame (R94) -/
  | address
  /-- what the controller sends after ADDR_W (R96) -/
  | payload
  /-- the six data bytes of a read frame (R98) -/
  | sample
  /-- the sixth data byte alone (R99) -/
  | buttons
  deriving DecidableEq, Repr

/-- A word that names a row of the table: an operation number with its typed operands beside it (R111), or the bits of a
wire pattern in the order they go over the bus (R62). -/
inductive Fetch where
  | command (op : Byte) (operands : List Int)
  | wire (place : Place) (bits : List Bool)
  deriving DecidableEq, Repr

/-- One turn of one agent (00_scope.md R9); the order of turns is the interleaving of 20_memory.md R74. -/
inductive Turn where
  /-- the foreground takes the next step of what it is running, if it has one -/
  | foreground
  /-- the timer's compare-match event (60_exceptions.md R253) -/
  | timer
  /-- the bus engine raises shift-complete; the target's draws are `a` for a written byte, `v` for a read one (R131, R132) -/
  | shiftComplete (a : Ack) (v : Byte)
  /-- a word of the table is presented from outside and runs at once -/
  | present (word : Fetch)
  deriving DecidableEq, Repr, Inhabited

end Sys2Proof
end

