-- ==== Sys2Proof/Config.lean ====
section
/-!
DEFINITION. The configuration record of 00_scope.md R6 (the literals of R7, the OPEN parameters of R8), the constraints a
proof may assume of it, and the free values: constants with no body, of which nothing can be proved.
-/

namespace Sys2Proof

/-- A direction coefficient, "each ±1" (43_reference_host.md R213). -/
inductive Sign where
  | plus
  | minus
  deriving DecidableEq, Repr

/-- An electrical level (R8 `ACTIVE_LEVEL`). -/
inductive Line where
  | low
  | high
  deriving DecidableEq, Repr

/-- `BTN` of R8: the number of each of the four button codes. -/
structure ButtonMap where
  none : Code2
  z    : Code2
  c    : Code2
  both : Code2
  deriving DecidableEq, Repr

/-- The parameters whose value the source states (R7), each named, its default the document's literal. The three counts
are fields too; the shape of the machine (its vectors, the fields of a sample, its scheduler states) is built for the
defaults, and `Config.Ok` ties them to it (log 28). -/
structure Literals where
  nCh        : Nat := numChannels
  nSample    : Nat := sampleBytes
  nStates    : Nat := numStates
  addrW      : Byte := 0xA4
  addrR      : Byte := 0xA5
  init1      : List Byte := [0xF0, 0x55]
  init2      : List Byte := [0xFB, 0x00]
  trig       : List Byte := [0x00]
  btnMask    : Byte := 0b11
  sentinel   : Byte := 0xFF
  deadzone   : Nat := 10
  paceFrames : Nat := 20
  deriving DecidableEq, Repr

/-- The configuration record, fixed for a run (R6): the literals of R7 and the OPEN parameters of R8. `ackLevel` is the
level of the acknowledge slot that means ACK, which 20_memory.md R64 leaves open beside `ackBitValue` (log 8). The three
quantities of time are used by no rule (R15). -/
structure Config where
  lit           : Literals := {}
  wMin          : Nat
  wMax          : Nat
  center        : Vector Nat numChannels
  gap           : Nat
  widthBits     : Nat
  tickBits      : Nat
  timeUnit      : Rat
  countsPerUnit : Rat
  tSettle       : Rat
  fwd           : Vector Sign numChannels
  str           : Vector Sign numChannels
  rot           : Vector Sign numChannels
  btn           : ButtonMap
  activeLevel   : Line
  ackBitValue   : Bool
  ackLevel      : Bool
  deriving DecidableEq, Repr

/-- The four button codes are distinct: `BTN` is injective (R8). -/
abbrev ButtonMap.Injective (m : ButtonMap) : Prop :=
  m.none ≠ m.z ∧ m.none ≠ m.c ∧ m.none ≠ m.both ∧ m.z ≠ m.c ∧ m.z ≠ m.both ∧ m.c ≠ m.both

/-- `W_MIN <= w <= W_MAX`: the valid pulse-width range (10_state.md R22). -/
abbrev Config.InRange (c : Config) (w : Nat) : Prop := c.wMin ≤ w ∧ w ≤ c.wMax

/-- The literals of R7 and the constraints of R8: the only things a proof may assume of a configuration. -/
structure Config.Ok (c : Config) : Prop where
  lit_default   : c.lit = {}
  wMin_pos      : 0 < c.wMin
  wMin_le_wMax  : c.wMin ≤ c.wMax
  center_range  : ∀ i : Channel, c.InRange c.center[i]
  gap_pos       : 0 < c.gap
  widthBits_pos : 0 < c.widthBits
  wMax_fits     : c.wMax < 2 ^ c.widthBits
  gap_fits      : c.gap < 2 ^ c.widthBits
  tickBits_pos  : 0 < c.tickBits
  pace_fits     : c.lit.paceFrames < 2 ^ c.tickBits
  tSettle_pos   : 0 < c.tSettle
  counts_pos    : 0 < c.countsPerUnit
  btn_injective : c.btn.Injective

/-- The check of 70_reset_and_hazards.md R300 on a configuration: the frame period, four pulses plus gap, lies between 19
and 23 time units. The source gives both bounds as approximate, so no statement assumes it. -/
def Config.framePeriodCheck (c : Config) : Bool :=
  decide (19 * c.countsPerUnit ≤ ((4 * c.wMin + c.gap : Nat) : Rat))
    && decide (((4 * c.wMax + c.gap : Nat) : Rat) ≤ 23 * c.countsPerUnit)

/-- The illustrative configuration EX1 of 95_test_vectors.md section 0. It is not from the source and no rule depends on
it; only tests and the witness that R8 can be met use it. The parameters EX1 leaves out ("not needed by any vector")
and the level of the acknowledge slot are filled in arbitrarily here. -/
def Config.ex1 : Config where
  wMin          := 125
  wMax          := 249
  center        := #v[187, 187, 187, 187]
  gap           := 1875
  widthBits     := 16
  tickBits      := 8
  timeUnit      := 1
  countsPerUnit := 125
  tSettle       := 1
  fwd           := #v[.plus, .minus, .plus, .minus]
  str           := #v[.plus, .plus, .minus, .minus]
  rot           := #v[.plus, .plus, .plus, .plus]
  btn           := { none := 3, z := 2, c := 1, both := 0 }
  activeLevel   := .high
  ackBitValue   := false
  ackLevel      := false

/-- The constraints of R8 can be met. -/
theorem Config.ex1_ok : Config.ex1.Ok := by
  constructor <;> decide

/-- A configuration that R8 admits has the document's literals, so putting them in its record changes nothing. -/
theorem Config.Ok.withLiterals {c : Config} (h : c.Ok) : ({ c with lit := {} } : Config).Ok :=
  have e : { c with lit := {} } = c := by rw [← h.lit_default]
  e.symm ▸ h

/-- FREE VALUE (log 1): the configuration of the chip at hand. Opaque, so that nothing is known of it but `Config.Ok`. -/
opaque Config.chipOf [Inhabited { c : Config // c.Ok }] : { c : Config // c.Ok }

/-- `Config.chipOf`, given the witness that R8 can be met (which it needs to exist and says nothing about its value). -/
def Config.chipFree : { c : Config // c.Ok } := @Config.chipOf ⟨⟨Config.ex1, Config.ex1_ok⟩⟩

/-- The configuration the machine is built with: the free one, its literals (which `Config.Ok` fixes) written out. -/
def Config.chip : { c : Config // c.Ok } := ⟨{ Config.chipFree.val with lit := {} }, Config.chipFree.property.withLiterals⟩

/-- FREE VALUE (log 2): the turn the environment chooses where State.script does not say: which agent moves, with what
answer or what presented word. -/
opaque Config.freeTurn : Nat → Turn

/-- FREE VALUE (log 7): the acknowledge bit the target draws for a transfer whose pattern does not show the slot. -/
opaque Config.freeAck : Nat → Ack

end Sys2Proof
end

