-- ==== Sys2Proof/WellFormed.lean ====
section
/-!
DEFINITION. Which instruction terms the encoding can name. Every operand but one is typed at its own width; SET_TARGET's
channel is a plain number in the pseudocode of 42_pulse_scheduler.md R184 and 2 bits wide in 30_encoding.md R101.
-/

namespace Sys2Proof

/-- The operands fit the widths of 30_encoding.md R101: the channel of SET_TARGET is in 0..3. -/
def Instr.wellFormed : Instr → Bool
  | .busInit | .start | .stop | .writeByte _ | .readByte _ => true
  | .delaySettle | .sensorInit | .requestSample | .readSample => true
  | .schedInit | .schedEnable | .getTick | .clrTick | .compareMatch => true
  | .setTarget i _ => decide (i < numChannels)
  | .clamp _ | .scale _ _ | .mode _ _ _ | .map _ _ _ | .boot | .waitStart | .cycle => true
  | .wireByte _ _ | .wireAddrW | .wireAddrR | .wireInit1 | .wireInit2 | .wireTrig => true
  | .wireSample _ _ _ _ _ _ _ | .wireButtons _ _ => true

end Sys2Proof
end

