-- ==== Sys2Proof/Decode.lean ====
section
/-!
DEFINITION. Decoding: from a word that names a row of the table to the instruction, total, rejecting by name; then the
encoder, written from the same tables (30_encoding.md R90 to R101, R110, R111).
-/

namespace Sys2Proof

/-- Why a word names no row of the table. -/
inductive DecodeError where
  /-- an operation number not in R110 (R112, U25) -/
  | reservedOp
  /-- the operation does not take this many operands (R110) -/
  | operandCount
  /-- an operand does not fit its width (R101) -/
  | operandRange
  /-- the bits are not as many as the pattern has slots (R90, R94, R96, R98) -/
  | patternLength
  /-- a first byte that is neither ADDR_W nor ADDR_R (R94) -/
  | unknownAddress
  /-- a payload that is not one of R96 -/
  | unknownPayload
  deriving DecidableEq, Repr

/-! ### Operation numbers -/

/-- The 22 operations of R110. -/
inductive Op where
  | busInit | start | stop | writeByte | readByte
  | delaySettle | sensorInit | requestSample | readSample
  | schedInit | schedEnable | setTarget | getTick | clrTick | compareMatch
  | clamp | scale | mode | map | boot | waitStart | cycle
  deriving DecidableEq, Repr

/-- The column `op` of R110: each operation's number. -/
def Op.number : Op → Byte
  | .busInit       => 0x00
  | .start         => 0x01
  | .stop          => 0x02
  | .writeByte     => 0x03
  | .readByte      => 0x04
  | .delaySettle   => 0x10
  | .sensorInit    => 0x11
  | .requestSample => 0x12
  | .readSample    => 0x13
  | .schedInit     => 0x20
  | .schedEnable   => 0x21
  | .setTarget     => 0x22
  | .getTick       => 0x23
  | .clrTick       => 0x24
  | .compareMatch  => 0x2F
  | .clamp         => 0x30
  | .scale         => 0x31
  | .mode          => 0x32
  | .map           => 0x33
  | .boot          => 0x34
  | .waitStart     => 0x35
  | .cycle         => 0x36

/-- The operations in the order of R110. -/
def Op.all : List Op :=
  [.busInit, .start, .stop, .writeByte, .readByte,
   .delaySettle, .sensorInit, .requestSample, .readSample,
   .schedInit, .schedEnable, .setTarget, .getTick, .clrTick, .compareMatch,
   .clamp, .scale, .mode, .map, .boot, .waitStart, .cycle]

/-- The operation a number names; none for a reserved number (R112). -/
def Op.ofNumber (n : Byte) : Option Op := Op.all.find? (fun o => o.number == n)

/-- How many operands an operation takes (R110, column "operands"). -/
def Op.arity : Op → Nat
  | .writeByte | .readByte | .clamp => 1
  | .setTarget | .scale => 2
  | .mode | .map => 3
  | .busInit | .start | .stop | .delaySettle | .sensorInit | .requestSample | .readSample => 0
  | .schedInit | .schedEnable | .getTick | .clrTick | .compareMatch => 0
  | .boot | .waitStart | .cycle => 0

/-! ### Operands -/

/-- An operand of `n` bits, unsigned. -/
def bitsOperand (n : Nat) (z : Int) : Except DecodeError (BitVec n) :=
  if 0 ≤ z ∧ z < 2 ^ n then .ok (BitVec.ofNat n z.toNat) else .error .operandRange

/-- A Boolean operand: 0 is false, 1 is true. -/
def flagOperand (z : Int) : Except DecodeError Bool :=
  if z = 0 then .ok false else if z = 1 then .ok true else .error .operandRange

/-- A channel operand: 2 bits (R101). -/
def channelOperand (z : Int) : Except DecodeError Nat :=
  if 0 ≤ z ∧ z < numChannels then .ok z.toNat else .error .operandRange

/-- A width operand: unsigned, of the OPEN width WIDTH_BITS (R101); its range is checked by SET_TARGET itself (R184). -/
def widthOperand (z : Int) : Except DecodeError Nat :=
  if 0 ≤ z then .ok z.toNat else .error .operandRange

/-- DESIGN CHOICE (log 4): the numbers by which an operand names a mode; R40 gives the three names only. -/
def Mode.number : Mode → Int
  | .neutral   => 0
  | .translate => 1
  | .rotate    => 2

/-- The mode an operand names (log 4). -/
def modeOperand (z : Int) : Except DecodeError Mode :=
  if z = 0 then .ok .neutral else if z = 1 then .ok .translate
  else if z = 2 then .ok .rotate else .error .operandRange

/-- The command decoder (R111): an operation number and its operands, exactly as many as it takes. -/
def decodeCommand (number : Byte) (operands : List Int) : Except DecodeError Instr :=
  match Op.ofNumber number with
  | none => .error .reservedOp
  | some op =>
    match op, operands with
    | .busInit, []       => .ok .busInit
    | .start, []         => .ok .start
    | .stop, []          => .ok .stop
    | .writeByte, [b]    => (bitsOperand 8 b).map .writeByte
    | .readByte, [k]     => (flagOperand k).map .readByte
    | .delaySettle, []   => .ok .delaySettle
    | .sensorInit, []    => .ok .sensorInit
    | .requestSample, [] => .ok .requestSample
    | .readSample, []    => .ok .readSample
    | .schedInit, []     => .ok .schedInit
    | .schedEnable, []   => .ok .schedEnable
    | .setTarget, [i, w] => (channelOperand i).bind fun i => (widthOperand w).map fun w => .setTarget i w
    | .getTick, []       => .ok .getTick
    | .clrTick, []       => .ok .clrTick
    | .compareMatch, []  => .ok .compareMatch
    | .clamp, [v]        => .ok (.clamp v)
    | .scale, [r, z]     => (bitsOperand 8 r).bind fun r => (bitsOperand 8 z).map fun z => .scale r z
    | .mode, [b, dx, dy] => (bitsOperand 2 b).map fun b => .mode b dx dy
    | .map, [dx, dy, m]  => (modeOperand m).map fun m => .map dx dy m
    | .boot, []          => .ok .boot
    | .waitStart, []     => .ok .waitStart
    | .cycle, []         => .ok .cycle
    | _, _               => .error .operandCount

/-! ### Bits on the wire -/

/-- The low `n` bits of a number, most significant first: the order of slots on the bus (20_memory.md R62). -/
def natBits : Nat → Nat → List Bool
  | 0, _     => []
  | n + 1, w => w.testBit n :: natBits n w

/-- The bits of a byte in the order they go over the bus: bit 7 first, bit 0 last (R62, R90). -/
def byteBits (b : Byte) : List Bool :=
  [b.getLsbD 7, b.getLsbD 6, b.getLsbD 5, b.getLsbD 4, b.getLsbD 3, b.getLsbD 2, b.getLsbD 1, b.getLsbD 0]

/-- The byte assembled from eight bits in the order of arrival: the first bit received is bit 7 (R62, R138). -/
def byteOfBits (b7 b6 b5 b4 b3 b2 b1 b0 : Bool) : Byte :=
  BitVec.ofBool b7 ++ BitVec.ofBool b6 ++ BitVec.ofBool b5 ++ BitVec.ofBool b4
    ++ BitVec.ofBool b3 ++ BitVec.ofBool b2 ++ BitVec.ofBool b1 ++ BitVec.ofBool b0

/-- The first byte of a run of bits, and the bits after it. -/
def takeByte : List Bool → Option (Byte × List Bool)
  | b7 :: b6 :: b5 :: b4 :: b3 :: b2 :: b1 :: b0 :: rest => some (byteOfBits b7 b6 b5 b4 b3 b2 b1 b0, rest)
  | _ => none

/-- A run of exactly `n` bytes. -/
def takeBytes : Nat → List Bool → Option (List Byte)
  | 0, []     => some []
  | 0, _ :: _ => none
  | n + 1, bits => (takeByte bits).bind fun (b, rest) => (takeBytes n rest).map (b :: ·)

/-- Bits 7:2 of a byte: what R99 discards of the button byte. -/
def highSix (v : Byte) : BitVec 6 := v.extractLsb' 2 6

/-- Bits 1:0 of a byte: the button code (R99). -/
def lowTwo (v : Byte) : Code2 := v.extractLsb' 0 2

/-- The button byte with high bits `r` and code `b`: the pattern "rrrrrrbb" of WIRE.BUTTONS. -/
def buttonByte (r : BitVec 6) (b : Code2) : Byte := r ++ b

/-- The wire decoder: the pattern that stands at a place of the traffic. The bytes it compares with are the parameters
ADDR_W, ADDR_R, INIT1, INIT2, TRIG and N_SAMPLE of the configuration (R7). -/
def decodeWire (l : Literals) (place : Place) (bits : List Bool) : Except DecodeError Instr :=
  match place with
  | .transfer =>
    match takeByte bits with
    | some (b, [a]) => .ok (.wireByte b a)
    | _ => .error .patternLength
  | .address =>
    match takeBytes 1 bits with
    | some [b] => if b = l.addrW then .ok .wireAddrW else if b = l.addrR then .ok .wireAddrR else .error .unknownAddress
    | _ => .error .patternLength
  | .payload =>
    match takeBytes (bits.length / 8) bits with
    | some p =>
      if p = l.init1 then .ok .wireInit1
      else if p = l.init2 then .ok .wireInit2
      else if p = l.trig then .ok .wireTrig
      else .error .unknownPayload
    | none => .error .patternLength
  | .sample =>
    match takeBytes l.nSample bits with
    | some [x, y, ax, ay, az, v6] => .ok (.wireSample x y ax ay az (highSix v6) (lowTwo v6))
    | _ => .error .patternLength
  | .buttons =>
    match takeBytes 1 bits with
    | some [v6] => .ok (.wireButtons (highSix v6) (lowTwo v6))
    | _ => .error .patternLength

/-- The decoder: total on every word, for the literals of R7 that the configuration has. -/
def decode (l : Literals) : Fetch → Except DecodeError Instr
  | .command number operands => decodeCommand number operands
  | .wire place bits         => decodeWire l place bits

/-! ### The encoder -/

/-- The word of an instruction: its number and operands (R110, R111), or its bits in bus order (R90, R94, R96, R98, R99). -/
def encode (l : Literals) : Instr → Fetch
  | .busInit       => .command Op.busInit.number []
  | .start         => .command Op.start.number []
  | .stop          => .command Op.stop.number []
  | .writeByte b   => .command Op.writeByte.number [b.toNat]
  | .readByte k    => .command Op.readByte.number [k.toNat]
  | .delaySettle   => .command Op.delaySettle.number []
  | .sensorInit    => .command Op.sensorInit.number []
  | .requestSample => .command Op.requestSample.number []
  | .readSample    => .command Op.readSample.number []
  | .schedInit     => .command Op.schedInit.number []
  | .schedEnable   => .command Op.schedEnable.number []
  | .setTarget i w => .command Op.setTarget.number [i, w]
  | .getTick       => .command Op.getTick.number []
  | .clrTick       => .command Op.clrTick.number []
  | .compareMatch  => .command Op.compareMatch.number []
  | .clamp v       => .command Op.clamp.number [v]
  | .scale r z     => .command Op.scale.number [r.toNat, z.toNat]
  | .mode b dx dy  => .command Op.mode.number [b.toNat, dx, dy]
  | .map dx dy m   => .command Op.map.number [dx, dy, m.number]
  | .boot          => .command Op.boot.number []
  | .waitStart     => .command Op.waitStart.number []
  | .cycle         => .command Op.cycle.number []
  | .wireByte b a  => .wire .transfer (byteBits b ++ [a])
  | .wireAddrW     => .wire .address (byteBits l.addrW)
  | .wireAddrR     => .wire .address (byteBits l.addrR)
  | .wireInit1     => .wire .payload (l.init1.flatMap byteBits)
  | .wireInit2     => .wire .payload (l.init2.flatMap byteBits)
  | .wireTrig      => .wire .payload (l.trig.flatMap byteBits)
  | .wireSample x y ax ay az r b =>
    .wire .sample (byteBits x ++ byteBits y ++ byteBits ax ++ byteBits ay ++ byteBits az ++ byteBits (buttonByte r b))
  | .wireButtons r b => .wire .buttons (byteBits (buttonByte r b))

/-! ### The words of the opcode table -/

/-- The word that spec/opcode_table.json's numbering names (log 5). A row of 8 bits is an operation number, its operands
zero, if the number names an operation; otherwise an address byte. A row of 9 slots (in two bytes) is a transfer, a row of
16 a payload, one of 48 a sample. The bits of a wire row are numbered from its last slot, as the table reads them. -/
def tableFetch (nbits w : Nat) : Fetch :=
  if nbits ≤ 8 then
    match Op.ofNumber (BitVec.ofNat 8 w) with
    | some op => .command (BitVec.ofNat 8 w) (List.replicate op.arity 0)
    | none    => .wire .address (natBits 8 w)
  else if nbits ≤ 16 then
    if w < 512 then .wire .transfer (natBits 9 w) else .wire .payload (natBits 16 w)
  else .wire .sample (natBits nbits w)

/-- The instruction the decoder reads from a word of the table, with the document's literals (R7). -/
def decodeTableWord (nbits w : Nat) : Option Instr :=
  match decode {} (tableFetch nbits w) with
  | .ok i    => some i
  | .error _ => none

end Sys2Proof
end

