-- ==== Sys2Proof/Machine/State.lean ====
section
/-!
DEFINITION. What the machine holds: the eleven elements of 10_state.md R20, the two traces of 00_scope.md R11, the
reference host's state of R40, the configuration record of R6, and the model's own fields; why a step can stop; the state
after power-on (R45).
-/

namespace Sys2Proof.Machine

/-! ### Why a step can stop -/

/-- The block raises nothing (60_exceptions.md R250, 93_implementation_defined.md "No row uses fault"): no step of the
model ends in a fault, and there is no reason to name. A stalled bus is no fault either: it is the foreground having no
step (R131), kept as such in stepForeground. Safe. -/
inductive Fault where
  deriving DecidableEq, Repr

/-- The cases to which the source gives no meaning (00_scope.md R10): the model declines them by name. A refusal is never a
behaviour of the hardware, so each is safe: no claim about a next state can be proved through one. -/
inductive Refusal where
  /-- raised by exec for an instruction whose meaning is not written yet; safe -/
  | notModelled (mnemonic : String)
  /-- raised by step for a word that names no row of the table (R112, U25); safe -/
  | badWord (why : DecodeError)
  /-- raised by every foreground operation while a primitive is in flight (R133, U4; the foreground has no step, R41); safe -/
  | primitivePending
  /-- raised by every foreground operation while a sequence or a host procedure runs (R9: "one at a time"); safe -/
  | foregroundBusy
  /-- raised by START with a frame open, by WRITE_BYTE, READ_BYTE and STOP with none open (R133, U4), and by the sequences
  with a frame open (R162, R164, R166); safe -/
  | busOrder
  /-- raised by DELAY_SETTLE with a frame open (R163); safe -/
  | delayInFrame
  /-- raised by SCHED_INIT while IE = 1 (R182, U8); safe -/
  | schedulerEnabled
  /-- raised by SCHED_ENABLE while ARMED = 0 (R183, U8); safe -/
  | timerNotArmed
  /-- raised by SET_TARGET for a channel outside 0..3 (R184, U7); safe -/
  | noSuchChannel
  /-- raised by SET_TARGET for a width outside W_MIN..W_MAX (R185, U7); safe -/
  | widthOutOfRange
  /-- raised by a wire pattern that the transfer in flight, or the next one, does not carry: the controller is the only
  source of traffic (R60, R79), so no such pattern is on the bus; safe -/
  | otherTransfer
  /-- raised when a sample read returns with other than six bytes; no run reaches it (R166 "always exactly six"); safe -/
  | sampleLength
  deriving DecidableEq, Repr

/-! ### Kinds of state -/

/-- The five states of the Pulse Scheduler (10_state.md R26). -/
inductive Phase where
  | p0 | p1 | p2 | p3 | gap
  deriving DecidableEq, Repr

/-- One output: inactive or active (R29). -/
inductive Level where
  | inactive
  | active
  deriving DecidableEq, Repr

/-- The six fields of a sample (R23). -/
structure Sample where
  x   : Byte
  y   : Byte
  ax  : Byte
  ay  : Byte
  az  : Byte
  btn : Code2
  deriving DecidableEq, Repr

/-- A transfer primitive with its operand (40_bus_transport.md R130); what PENDING holds (R41). -/
inductive Prim where
  | start
  | stop
  | write (b : Byte)
  | read (sendAck : Bool)
  deriving DecidableEq, Repr

/-- A symbol of the wire trace (00_scope.md R11 a). -/
inductive Symbol where
  /-- `S` -/
  | start
  /-- `P` -/
  | stop
  /-- `W(b, a)` -/
  | sent (b : Byte) (a : Ack)
  /-- `R(v, a)` -/
  | received (v : Byte) (a : Ack)
  /-- `D` -/
  | delay
  deriving DecidableEq, Repr

/-- A record of the pulse trace: the state entered and the compare interval programmed (R11 b). -/
structure Pulse where
  phase : Phase
  count : Nat
  deriving DecidableEq, Repr

/-- The three sequences of the Motion Sensor Client (R27). -/
inductive SeqName where
  | sensorInit
  | requestSample
  | readSample
  deriving DecidableEq, Repr

/-- One step of a sequence: a primitive or a settle delay (41_sensor_client.md R160). -/
inductive SeqStep where
  | prim (p : Prim)
  | delay
  deriving DecidableEq, Repr

/-- A sequence that runs (SEQ, R27): how many of its steps have been issued, and the bytes its reads have returned. -/
structure SeqRun where
  name : SeqName
  pos  : Nat
  got  : List Byte
  deriving DecidableEq, Repr

/-- LOOP of the reference host (R40). -/
inductive Loop where
  | waitForStart
  | running
  deriving DecidableEq, Repr

/-- The three procedures of the control loop (43_reference_host.md R220). -/
inductive Proc where
  | boot
  | waitStart
  | cycle
  deriving DecidableEq, Repr

/-- What the reference host does next (R220 to R230). Each position is one foreground step, so that a COMPARE_MATCH may fall
between any two (20_memory.md R75). -/
inductive HostPos where
  /-- between procedures; `p` is the one that runs next -/
  | ready (p : Proc)
  /-- BOOT: issue SENSOR_INIT (R221) -/
  | bootSensor
  /-- BOOT: SCHED_INIT (R221) -/
  | bootSched
  /-- BOOT: LOOP <- WaitForStart (R221) -/
  | bootLoop
  /-- WAIT_START: test the button of the sample just read (R222) -/
  | waitTest
  /-- WAIT_START: CAL <- (s.x, s.y) (R222, R223) -/
  | waitCapture
  /-- WAIT_START: SCHED_ENABLE (R222, R224) -/
  | waitEnable
  /-- WAIT_START: LOOP <- Running (R222) -/
  | waitLoop
  /-- CYCLE: the sentinel test of step a (R226) -/
  | cycleJudge
  /-- CYCLE: the button test of step b (R227) -/
  | cycleRezero
  /-- CYCLE: CAL <- (s.x, s.y) of step b (R227) -/
  | cycleCapture
  /-- CYCLE: dx of step c, one SCALE (R214, R228) -/
  | cycleScaleX
  /-- CYCLE: dy of step c, one SCALE (R214, R228) -/
  | cycleScaleY
  /-- CYCLE: step d, MODE (R216) -/
  | cycleMode
  /-- CYCLE: the mapping of step e, MAP (R218) -/
  | cycleMap
  /-- CYCLE: store channel `k` (R229) -/
  | cycleStore (k : Channel)
  /-- CYCLE: one GET_TICK of the pacing wait (R230) -/
  | cyclePace
  /-- CYCLE: CLR_TICK (R230) -/
  | cycleClear
  deriving DecidableEq, Repr

/-- The value an operation returns to its caller (the column "result" of 30_encoding.md R110). -/
inductive Ret where
  /-- nothing has been returned yet -/
  | nothing
  | ack (a : Ack)
  | byte (v : Byte)
  | sample (s : Sample)
  | tick (n : Nat)
  | width (w : Nat)
  | displacement (d : Int)
  | mode (m : Mode)
  | widths (w : Vector Nat numChannels)
  deriving DecidableEq, Repr

/-! ### The state -/

/-- The whole state of the machine. Counts are natural numbers; the bounds their widths give (R21, R35, R36) are part of
the invariant in Safety.lean. -/
structure State where
  /-- the configuration record, fixed for a run (R6) -/
  cfg     : Config
  /-- TARGET[0..3] (R21) -/
  target  : Vector Nat numChannels
  /-- SAMPLE (R23) -/
  sample  : Sample
  /-- phase (R26) -/
  phase   : Phase
  /-- SEQ (R27) -/
  seq     : Option SeqRun
  /-- OUT[0..3] (R29) -/
  out     : Vector Level numChannels
  /-- IE (R31) -/
  ie      : Bool
  /-- ARMED (R32) -/
  armed   : Bool
  /-- BUS_OPEN (R33) -/
  busOpen : Bool
  /-- CMP (R35) -/
  cmp     : Nat
  /-- TICK (R36) -/
  tick    : Nat
  /-- PENDING (R41) -/
  pending : Option Prim
  /-- WIRE (00_scope.md R11 a) -/
  wire    : List Symbol
  /-- PULSE (00_scope.md R11 b) -/
  pulse   : List Pulse
  /-- CAL.x0 of the reference host (R40) -/
  calX    : Byte
  /-- CAL.y0 of the reference host (R40) -/
  calY    : Byte
  /-- LOOP of the reference host (R40) -/
  loop    : Loop
  /-- the reference host's position in its program (R220, R282) -/
  pos     : HostPos
  /-- dx of CYCLE (R225 c) -/
  dx      : Int
  /-- dy of CYCLE (R225 c) -/
  dy      : Int
  /-- mode of CYCLE (R225 d) -/
  mode    : Mode
  /-- w[0..3] of CYCLE (R225 e) -/
  widths  : Vector Nat numChannels
  /-- the model's own: the value last returned to the caller of an operation (log 15) -/
  ret     : Ret
  /-- the model's own: the turns the environment has chosen, oldest first (log 2) -/
  script  : List Turn
  /-- the model's own: how many turns came from `Config.freeTurn` (log 2) -/
  turnNo  : Nat
  /-- the model's own: how many acknowledge bits came from `Config.freeAck` (log 7) -/
  drawNo  : Nat
  deriving DecidableEq, Repr

/-- The state after power-on with configuration `c` (10_state.md R45). CMP, SAMPLE and CAL are "unspecified" there: zero
here is a DESIGN CHOICE (logs 10, 11, 12), as are the host's locals and the model's own fields (logs 2, 7, 13, 15). -/
def State.powerOn (c : Config) : State where
  cfg     := c
  target  := c.center
  sample  := { x := 0, y := 0, ax := 0, ay := 0, az := 0, btn := 0 }
  phase   := .gap
  seq     := none
  out     := Vector.replicate numChannels .inactive
  ie      := false
  armed   := false
  busOpen := false
  cmp     := 0
  tick    := 0
  pending := none
  wire    := []
  pulse   := []
  calX    := 0
  calY    := 0
  loop    := .waitForStart
  pos     := .ready .boot
  dx      := 0
  dy      := 0
  mode    := .neutral
  widths  := Vector.replicate numChannels 0
  ret     := .nothing
  script  := []
  turnNo  := 0
  drawNo  := 0

/-- The machine right after power-on (R45, R280, R282), built with the opaque configuration of log 1. -/
def State.reset : State := State.powerOn Config.chip.val

/-- What every meaning answers. -/
abbrev Out := Host.Outcome State Fault Refusal

end Sys2Proof.Machine
end

