-- ==== Sys2Proof/Machine/Flags.lean ====
section
/-!
DEFINITION. The one-bit state and how it is computed: the outputs (10_state.md R29, R30), their electrical level, the gate
of the interrupt (R188), the acknowledge slot (20_memory.md R64) and the number of the acknowledge bit (D5).
-/

namespace Sys2Proof.Machine

/-- All four outputs inactive: step 1 of COMPARE_MATCH (R190). -/
def outputsInactive : Vector Level numChannels := Vector.replicate numChannels .inactive

/-- Assert the output of one channel: step 3 of COMPARE_MATCH (R190). -/
def assertOutput (k : Channel) (out : Vector Level numChannels) : Vector Level numChannels := out.set k .active

/-- The channel whose pulse a scheduler state is; Gap is none (R26). -/
def Phase.channel : Phase → Option Channel
  | .p0  => some 0
  | .p1  => some 1
  | .p2  => some 2
  | .p3  => some 3
  | .gap => none

/-- The N_STATES states of the scheduler, in the order of its cycle (R7, R26, R189). -/
def Phase.all : List Phase := [.p0, .p1, .p2, .p3, .gap]

/-- The successor function (R189). -/
def Phase.succ : Phase → Phase
  | .p0  => .p1
  | .p1  => .p2
  | .p2  => .p3
  | .p3  => .gap
  | .gap => .p0

/-- COMPARE_MATCH can step exactly when ARMED = 1 and IE = 1 (R188, R254). -/
def State.interruptEnabled (s : State) : Bool := s.armed && s.ie

/-- TICK plus one at its width: at its maximum it wraps to 0 (R36, R190 d). -/
def nextTick (c : Config) (tick : Nat) : Nat := (tick + 1) % 2 ^ c.tickBits

/-- The electrical level of an output (R29): an active one is at ACTIVE_LEVEL, an inactive one at the other level. -/
def pinLevel (c : Config) : Level → Line
  | .active   => c.activeLevel
  | .inactive => match c.activeLevel with
    | .high => .low
    | .low  => .high

/-- What the controller puts in the acknowledge slot of a byte it reads: ACK if `send_ack` is true (R101, R138). -/
def readAck (sendAck : Bool) : Ack := if sendAck then .ack else .nak

/-- What the ninth slot holds when it is at level `bit`; which level is ACK is open (R64, log 8). -/
def slotAck (c : Config) (bit : Bool) : Ack := if bit = c.ackLevel then .ack else .nak

/-- The number WRITE_BYTE returns as `ack_bit` (R8 `ACK_BIT_VALUE`, D5; log 9). -/
def ackBit (c : Config) : Ack → Bool
  | .ack => c.ackBitValue
  | .nak => !c.ackBitValue

end Sys2Proof.Machine
end

