-- ==== Sys2Proof/Machine/Operands.lean ====
section
/-!
DEFINITION. Operand assembly: the lists of primitives a sequence expands to (41_sensor_client.md R160 to R166), the fields
of a sample (30_encoding.md R98, R99), and the arithmetic of the reference host (43_reference_host.md R210 to R218), all
over the integers.
-/

namespace Sys2Proof.Machine

/-! ### Frames and sequences -/

/-- `MemWrite(ADDR_W, n, payload)`: one write frame (R92, R161). -/
def writeFrame (l : Literals) (payload : List Byte) : List SeqStep :=
  [.prim .start, .prim (.write l.addrW)] ++ payload.map (fun b => .prim (.write b)) ++ [.prim .stop]

/-- `MemRead(ADDR_R, n + 1)`: one read frame, ACK after every data byte but the last, NAK after that (R93, R165). -/
def readFrame (l : Literals) (n : Nat) : List SeqStep :=
  [.prim .start, .prim (.write l.addrR)] ++ List.replicate n (.prim (.read true)) ++ [.prim (.read false), .prim .stop]

/-- The expansion of a sequence (30_encoding.md R114): R162, R166, R164. -/
def SeqName.steps (l : Literals) : SeqName → List SeqStep
  | .sensorInit    => writeFrame l l.init1 ++ [.delay] ++ writeFrame l l.init2
  | .readSample    => readFrame l (l.nSample - 1)
  | .requestSample => writeFrame l l.trig ++ [.delay] ++ readFrame l (l.nSample - 1)

/-- The step a running sequence issues next; none when all are issued. -/
def SeqRun.next (l : Literals) (r : SeqRun) : Option SeqStep := (r.name.steps l)[r.pos]?

/-- The button code of the sixth byte: masked to its two least-significant bits (R99). -/
def buttonCode (l : Literals) (v6 : Byte) : Code2 := (v6 &&& l.btnMask).setWidth 2

/-- The N_SAMPLE bytes of a read frame as a sample, in the order of arrival (R98, R166); none unless they are that many. -/
def sampleOf (l : Literals) (got : List Byte) : Option Sample :=
  if got.length = l.nSample then
    match got with
    | [v1, v2, v3, v4, v5, v6] => some { x := v1, y := v2, ax := v3, ay := v4, az := v5, btn := buttonCode l v6 }
    | _ => none
  else none

/-! ### The reference host's arithmetic -/

/-- The integer of a direction coefficient, +1 or -1 (R213). -/
def signOf : Sign → Int
  | .plus  => 1
  | .minus => -1

/-- CLAMP (R211). -/
def clampWidth (c : Config) (v : Int) : Nat :=
  if v < c.wMin then c.wMin else if (c.wMax : Int) < v then c.wMax else v.toNat

/-- HALF: halving rounds toward zero (R214, R215, D17). -/
def half (d : Int) : Int := d.sign * ((d.natAbs / 2 : Nat) : Int)

/-- SCALE: the difference is taken in the integers, then halved (R214). -/
def scaleStick (raw zero : Byte) : Int := half ((raw.toNat : Int) - (zero.toNat : Int))

/-- The deadzone: both displacements strictly below the threshold in magnitude (R217). -/
def inDeadzone (l : Literals) (dx dy : Int) : Bool := decide (dx.natAbs < l.deadzone) && decide (dy.natAbs < l.deadzone)

/-- MODE (R216); with both buttons pressed the result is Neutral (D20). -/
def modeOf (c : Config) (btn : Code2) (dx dy : Int) : Mode :=
  if btn = c.btn.z ∧ inDeadzone c.lit dx dy = false then .rotate
  else if inDeadzone c.lit dx dy = false ∧ (btn = c.btn.none ∨ btn = c.btn.c) then .translate
  else .neutral

/-- MAP for one channel (R218); Neutral outside the deadzone gives the centre (D19). -/
def mapWidth (c : Config) (dx dy : Int) (m : Mode) (i : Channel) : Nat :=
  if inDeadzone c.lit dx dy then c.center[i]
  else match m with
    | .translate => clampWidth c (signOf c.fwd[i] * dy + signOf c.str[i] * dx + c.center[i])
    | .rotate    => clampWidth c (signOf c.rot[i] * dx + c.center[i])
    | .neutral   => c.center[i]

/-- MAP: the four widths (R218). -/
def mapWidths (c : Config) (dx dy : Int) (m : Mode) : Vector Nat numChannels := Vector.ofFn (mapWidth c dx dy m)

end Sys2Proof.Machine
end

