-- ==== Sys2Proof/Machine/Ops.lean ====
section
/-!
DEFINITION. The named operations over State that the meanings share: the writes of a field, Issue and Complete of a
primitive (40_bus_transport.md R131, R133), the steps of a sequence (41_sensor_client.md R160), the delivery of the one
interrupt with its entry and return (60_exceptions.md R253 to R260), and a byte that goes over the wire.
-/

namespace Sys2Proof.Machine

/-! ### Writes of one field -/

/-- PENDING <- p. -/
def State.setPending (p : Option Prim) (s : State) : State := { s with pending := p }

/-- BUS_OPEN <- b. -/
def State.setBusOpen (b : Bool) (s : State) : State := { s with busOpen := b }

/-- append WIRE, x. -/
def State.logWire (x : Symbol) (s : State) : State := { s with wire := s.wire ++ [x] }

/-- SEQ <- r. -/
def State.setSeq (r : Option SeqRun) (s : State) : State := { s with seq := r }

/-- SAMPLE <- v, all six fields. -/
def State.setSample (v : Sample) (s : State) : State := { s with sample := v }

/-- return r. -/
def State.setRet (r : Ret) (s : State) : State := { s with ret := r }

/-- TARGET[i] <- w: one atomic store (20_memory.md R71). -/
def State.setTarget (i : Channel) (w : Nat) (s : State) : State := { s with target := s.target.set i w }

/-- TICK <- n: one atomic store (R71). -/
def State.setTick (n : Nat) (s : State) : State := { s with tick := n }

/-- IE <- b. -/
def State.setIe (b : Bool) (s : State) : State := { s with ie := b }

/-- The reference host goes to position `p`. -/
def State.setPos (p : HostPos) (s : State) : State := { s with pos := p }

/-- LOOP <- l. -/
def State.setLoop (l : Loop) (s : State) : State := { s with loop := l }

/-- CAL <- (x, y). -/
def State.setCal (x y : Byte) (s : State) : State := { s with calX := x, calY := y }

/-- dx <- d (R225 c). -/
def State.setDx (d : Int) (s : State) : State := { s with dx := d }

/-- dy <- d (R225 c). -/
def State.setDy (d : Int) (s : State) : State := { s with dy := d }

/-- mode <- m (R225 d). -/
def State.setMode (m : Mode) (s : State) : State := { s with mode := m }

/-- w <- the four widths (R225 e). -/
def State.setWidths (w : Vector Nat numChannels) (s : State) : State := { s with widths := w }

/-- One more acknowledge bit has been drawn from the free value (log 7). -/
def State.drawn (s : State) : State := { s with drawNo := s.drawNo + 1 }

/-! ### Chaining -/

/-- Go on from a next state; a refusal ends the chain. -/
def andThen (o : Out) (f : State → Out) : Out :=
  match o with
  | .next s    => f s
  | .fault r   => .fault r
  | .refused r => .refused r

/-- Go on from a next state with a step that always completes. -/
def mapNext (o : Out) (f : State → State) : Out := andThen o fun s => .next (f s)

/-! ### The foreground -/

/-- The foreground is between two operations: nothing in flight, no sequence and no host procedure running (R9, R41). -/
def State.atBoundary (s : State) : Bool :=
  s.pending.isNone && s.seq.isNone && (match s.pos with | .ready _ => true | _ => false)

/-- A foreground operation is issued "one at a time, each synchronous" (00_scope.md R9): only between two operations.
With a primitive in flight the foreground has no step (R41, R133). Log 17. -/
def whenIdle (s : State) (k : State → Out) : Out :=
  if s.pending ≠ none then .refused .primitivePending
  else if s.atBoundary then k s
  else .refused .foregroundBusy

/-! ### A primitive: Issue and Complete (R131) -/

/-- The BUS_OPEN a primitive requires: START needs it false, the others true (R133). -/
def Prim.needsOpen : Prim → Bool
  | .start => false
  | .stop | .write _ | .read _ => true

/-- *Issue*: the primitive goes on the wire and is PENDING, if the order is legal (R131, R133). -/
def issue (p : Prim) (s : State) : Out :=
  if s.pending ≠ none then .refused .primitivePending
  else if s.busOpen = p.needsOpen then .next (s.setPending (some p))
  else .refused .busOrder

/-- The result of a primitive goes to its caller: to the host, or to the sequence that runs, which discards acknowledge
bits and keeps the bytes read (41_sensor_client.md R160). -/
def deliver (r : Ret) (s : State) : State :=
  match s.seq, r with
  | none, _            => s.setRet r
  | some run, .byte v  => s.setSeq (some { run with got := run.got ++ [v] })
  | some _, _          => s

/-- *Complete*: the bus engine raises shift-complete. PENDING is cleared, the symbol goes on WIRE with the target's draw
(`a` for a byte sent, `v` for a byte received), and the result is delivered (R131, R132, R135 to R138). With nothing in
flight there is nothing to complete. -/
def complete (a : Ack) (v : Byte) (s : State) : State :=
  match s.pending with
  | none            => s
  | some .start     => ((s.setPending none).logWire .start).setBusOpen true
  | some .stop      => ((s.setPending none).logWire .stop).setBusOpen false
  | some (.write b) => deliver (.ack a) ((s.setPending none).logWire (.sent b a))
  | some (.read k)  => deliver (.byte v) ((s.setPending none).logWire (.received v (readAck k)))

/-! ### A sequence (R160) -/

/-- Enter a sequence: it begins with no frame open and nothing in flight (R162, R164, R166). -/
def enterSequence (n : SeqName) (s : State) : Out :=
  if s.pending ≠ none then .refused .primitivePending
  else if s.busOpen then .refused .busOrder
  else .next (s.setSeq (some { name := n, pos := 0, got := [] }))

/-- One settle delay: nothing goes on the bus (R163). -/
def settle (s : State) : Out :=
  if s.busOpen then .refused .delayInFrame else .next (s.logWire .delay)

/-- The sequence has issued and completed all its steps and returns; a sample read assembles SAMPLE from its six bytes and
returns it whole (R166, R164). -/
def finishSequence (run : SeqRun) (s : State) : Out :=
  match run.name with
  | .sensorInit => .next (s.setSeq none)
  | .requestSample | .readSample =>
    match sampleOf s.cfg.lit run.got with
    | some v => .next (((s.setSample v).setSeq none).setRet (.sample v))
    | none   => .refused .sampleLength

/-- The foreground's next step in a sequence: issue its next primitive, spend its delay, or return (R160). -/
def stepSequence (run : SeqRun) (s : State) : Out :=
  match run.next s.cfg.lit with
  | some (.prim p) => issue p (s.setSeq (some { run with pos := run.pos + 1 }))
  | some .delay    => settle (s.setSeq (some { run with pos := run.pos + 1 }))
  | none           => finishSequence run s

/-! ### The interrupt (60_exceptions.md) -/

/-- Entry saves and changes nothing visible (R258, D31). -/
def interruptEntry (s : State) : State := s

/-- Return restores nothing but what entry preserved, and IE stays as it is (R260, D31). -/
def interruptReturn (s : State) : State := s

/-- Enter Pk: assert its output, read its target once and program it (R190 step 3). -/
def enterPulse (k : Channel) (next : Phase) (s : State) : State :=
  { s with
    out   := assertOutput k outputsInactive
    cmp   := s.target[k]
    pulse := s.pulse ++ [{ phase := next, count := s.target[k] }]
    phase := next }

/-- Enter Gap: program the fixed gap and count the frame (R190 step 2). -/
def enterGap (s : State) : State :=
  { s with
    out   := outputsInactive
    cmp   := s.cfg.gap
    tick  := nextTick s.cfg s.tick
    pulse := s.pulse ++ [{ phase := .gap, count := s.cfg.gap }]
    phase := .gap }

/-- The handler: one atomic step (R190, 20_memory.md R72). -/
def compareMatchHandler (s : State) : State :=
  match s.phase.succ.channel with
  | some k => enterPulse k s.phase.succ s
  | none   => enterGap s

/-- The compare-match event: taken as one handler run when it is enabled (R188), otherwise without effect and not latched
(10_state.md R42, 60_exceptions.md R255). -/
def compareEvent (s : State) : State :=
  if s.interruptEnabled then interruptReturn (compareMatchHandler (interruptEntry s)) else s

/-! ### A pattern that goes over the wire -/

/-- Put the transfer `p` in flight if it is not yet: as the next step of the sequence that runs, or as the next operation of
a host that is between operations. The controller sends nothing else (20_memory.md R79). -/
def putInFlight (p : Prim) (s : State) : Out :=
  match s.pending with
  | some q => if q = p then .next s else .refused .otherTransfer
  | none =>
    match s.seq with
    | some run => if run.next s.cfg.lit = some (.prim p) then stepSequence run s else .refused .otherTransfer
    | none     => if s.atBoundary then issue p s else .refused .foregroundBusy

/-- The transfer that the bus carries next: the one in flight, else the next step of the sequence that runs (R79); none where
neither says. -/
def State.nextTransfer (s : State) : Option Prim :=
  match s.pending, s.seq with
  | some p, _      => some p
  | none, some run =>
    match run.next s.cfg.lit with
    | some (.prim p) => some p
    | _              => none
  | none, none     => none

/-- The transfer `p` goes over the wire with the target's draw (R90, R131). -/
def transfer (p : Prim) (a : Ack) (v : Byte) (s : State) : Out := mapNext (putInFlight p s) (complete a v)

/-- A byte of the controller goes over the wire; the pattern does not show its acknowledge slot, which the target draws
freely (R132, log 7). -/
def transferSent (b : Byte) (s : State) : Out :=
  mapNext (transfer (.write b) (Config.freeAck s.drawNo) 0 s) State.drawn

/-- Bytes of the controller go over the wire one after another (R96). -/
def transferAllSent : List Byte → State → Out
  | [], s      => .next s
  | b :: bs, s => andThen (transferSent b s) (transferAllSent bs)

/-- A byte of the target goes over the wire, answered by the controller (R98). -/
def transferReceived (v : Byte) (sendAck : Bool) (s : State) : Out := transfer (.read sendAck) .nak v s

end Sys2Proof.Machine
end

