-- ==== Sys2Proof/Machine/BusTransport.lean ====
section
/-!
DEFINITION. The Bus Transport operations (40_bus_transport.md R130 to R138). A meaning here is the foreground's step of
R131: BUS_INIT whole, and the Issue of the four transfer primitives, whose Complete is the bus engine's (Ops.complete).
-/

namespace Sys2Proof.Machine

/-- What BUS_INIT writes (R134). -/
def initBus (s : State) : State := (s.setBusOpen false).setPending none

/-- BUS_INIT (R134): allowed with nothing in flight; nothing goes on the wire. -/
def execBusInit (s : State) : Out := whenIdle s fun s => .next (initBus s)

/-- START (R135): Issue; refused with a frame open. -/
def execStart (s : State) : Out := whenIdle s (issue .start)

/-- STOP (R136): Issue; refused with no frame open. -/
def execStop (s : State) : Out := whenIdle s (issue .stop)

/-- WRITE_BYTE b (R137): Issue. -/
def execWriteByte (b : Byte) (s : State) : Out := whenIdle s (issue (.write b))

/-- READ_BYTE send_ack (R138): Issue. -/
def execReadByte (sendAck : Bool) (s : State) : Out := whenIdle s (issue (.read sendAck))

end Sys2Proof.Machine
end

