-- ==== Sys2Proof/Machine/PulseScheduler.lean ====
section
/-!
DEFINITION. The Pulse Scheduler operations (42_pulse_scheduler.md R182 to R190).
-/

namespace Sys2Proof.Machine

/-- What SCHED_INIT does (R182): refused while IE = 1; IE, TARGET and CMP are not written. -/
def initScheduler (s : State) : Out :=
  if s.ie then .refused .schedulerEnabled
  else .next { s with out := outputsInactive, armed := true, phase := .gap, tick := 0 }

/-- What SCHED_ENABLE does (R183): refused while ARMED = 0. -/
def enableScheduler (s : State) : Out :=
  if s.armed then .next (s.setIe true) else .refused .timerNotArmed

/-- What SET_TARGET does (R184, R185): one atomic store of an in-range width to one of the four channels. -/
def storeTarget (i w : Nat) (s : State) : Out :=
  if h : i < numChannels then
    if s.cfg.InRange w then .next (s.setTarget ⟨i, h⟩ w) else .refused .widthOutOfRange
  else .refused .noSuchChannel

/-- What GET_TICK does (R186): one atomic load; reading does not clear. -/
def loadTick (s : State) : State := s.setRet (.tick s.tick)

/-- SCHED_INIT (R182). -/
def execSchedInit (s : State) : Out := whenIdle s initScheduler

/-- SCHED_ENABLE (R183). -/
def execSchedEnable (s : State) : Out := whenIdle s enableScheduler

/-- SET_TARGET i, w (R184). -/
def execSetTarget (i w : Nat) (s : State) : Out := whenIdle s (storeTarget i w)

/-- GET_TICK (R186). -/
def execGetTick (s : State) : Out := whenIdle s fun s => .next (loadTick s)

/-- CLR_TICK (R187). -/
def execClrTick (s : State) : Out := whenIdle s fun s => .next (s.setTick 0)

/-- COMPARE_MATCH (R190): the event, in the interrupt context, whatever the foreground is doing (R75). -/
def execCompareMatch (s : State) : Out := .next (compareEvent s)

end Sys2Proof.Machine
end

