-- ==== Sys2Proof/Machine/SensorClient.lean ====
section
/-!
DEFINITION. The Motion Sensor Client operations (41_sensor_client.md R160 to R166). A sequence is entered here; each later
foreground step issues one of its primitives or delays (Ops.stepSequence), with interrupts in between as they come (R27).
-/

namespace Sys2Proof.Machine

/-- DELAY_SETTLE (R163): nothing is put on the bus; refused with a frame open. -/
def execDelaySettle (s : State) : Out := whenIdle s settle

/-- SENSOR_INIT (R162): enter the sequence of ten primitives and one delay. -/
def execSensorInit (s : State) : Out := whenIdle s (enterSequence .sensorInit)

/-- REQUEST_SAMPLE (R164): enter the sequence of thirteen primitives and one delay. -/
def execRequestSample (s : State) : Out := whenIdle s (enterSequence .requestSample)

/-- READ_SAMPLE (R166): enter the sequence of nine primitives. -/
def execReadSample (s : State) : Out := whenIdle s (enterSequence .readSample)

end Sys2Proof.Machine
end

