-- ==== Sys2Proof/Machine/ReferenceHost.lean ====
section
/-!
DEFINITION. The reference host (43_reference_host.md): the mapper's functions CLAMP, SCALE, MODE and MAP, and the control
loop BOOT, WAIT_START and CYCLE, whose every later step is a foreground step of its own (`stepHost`).
-/

namespace Sys2Proof.Machine

/-- What SCALE does: it returns the displacement (R214). -/
def returnScale (raw zero : Byte) (s : State) : State := s.setRet (.displacement (scaleStick raw zero))

/-- What MODE does: it returns the mode (R216). -/
def returnMode (btn : Code2) (dx dy : Int) (s : State) : State := s.setRet (.mode (modeOf s.cfg btn dx dy))

/-- What MAP does: it returns the four widths (R218). -/
def returnMap (dx dy : Int) (m : Mode) (s : State) : State := s.setRet (.widths (mapWidths s.cfg dx dy m))

/-- CLAMP v (R211). -/
def execClamp (v : Int) (s : State) : Out := whenIdle s fun s => .next (s.setRet (.width (clampWidth s.cfg v)))

/-- SCALE raw, zero (R214). -/
def execScale (raw zero : Byte) (s : State) : Out := whenIdle s fun s => .next (returnScale raw zero s)

/-- MODE btn, dx, dy (R216). -/
def execMode (btn : Code2) (dx dy : Int) (s : State) : Out := whenIdle s fun s => .next (returnMode btn dx dy s)

/-- MAP dx, dy, mode (R218). -/
def execMap (dx dy : Int) (m : Mode) (s : State) : Out := whenIdle s fun s => .next (returnMap dx dy m s)

/-- BOOT (R221): its first operation, BUS_INIT; SENSOR_INIT comes next. -/
def execBoot (s : State) : Out := whenIdle s fun s => .next ((initBus s).setPos .bootSensor)

/-- WAIT_START (R222): its first operation, REQUEST_SAMPLE; the test of the button comes when it has returned. -/
def execWaitStart (s : State) : Out :=
  whenIdle s fun s => mapNext (enterSequence .requestSample s) (State.setPos .waitTest)

/-- CYCLE (R225): its first operation, REQUEST_SAMPLE; the sentinel test comes when it has returned. -/
def execCycle (s : State) : Out :=
  whenIdle s fun s => mapNext (enterSequence .requestSample s) (State.setPos .cycleJudge)

/-- CAL <- (s.x, s.y) (R223, R227). -/
def captureCal (s : State) : State := s.setCal s.sample.x s.sample.y

/-- The button test of WAIT_START (R222): equality with the one code; any other polls again, with no pacing. -/
def testStart (s : State) : Out :=
  if s.sample.btn = s.cfg.btn.c then .next (s.setPos .waitCapture) else enterSequence .requestSample s

/-- Step a of CYCLE, the test: a sample whose `az` is the sentinel is discarded and the next is requested at once, nothing
written (R226). -/
def judgeSample (s : State) : Out :=
  if s.sample.az = s.cfg.lit.sentinel then enterSequence .requestSample s else .next (s.setPos .cycleRezero)

/-- Step b of CYCLE, the test: re-zero on C-pressed, equality with the one code (R227). -/
def testRezero (s : State) : State :=
  if s.sample.btn = s.cfg.btn.c then s.setPos .cycleCapture else s.setPos .cycleScaleX

/-- Step c of CYCLE, for x: SCALE with the CAL that step b left (R214, R228). -/
def scaleX (s : State) : State := (returnScale s.sample.x s.calX s).setDx (scaleStick s.sample.x s.calX)

/-- Step c of CYCLE, for y (R214, R228). -/
def scaleY (s : State) : State := (returnScale s.sample.y s.calY s).setDy (scaleStick s.sample.y s.calY)

/-- Step d of CYCLE (R216). -/
def pickMode (s : State) : State := (returnMode s.sample.btn s.dx s.dy s).setMode (modeOf s.cfg s.sample.btn s.dx s.dy)

/-- Step e of CYCLE, the mapping (R218). -/
def mapSample (s : State) : State := (returnMap s.dx s.dy s.mode s).setWidths (mapWidths s.cfg s.dx s.dy s.mode)

/-- After the store of channel `k`: the next channel in ascending order (R229, D23), then the pacing wait. -/
def afterStore (k : Channel) : HostPos :=
  if h : k.val + 1 < numChannels then .cycleStore ⟨k.val + 1, h⟩ else .cyclePace

/-- One pass of the pacing wait (R230, D18): GET_TICK, and on to CLR_TICK once it has reached PACE_FRAMES. -/
def pollTick (s : State) : State :=
  if s.cfg.lit.paceFrames ≤ s.tick then (loadTick s).setPos .cycleClear else loadTick s

/-- The reference host's next step, when nothing is in flight and no sequence runs (R220 to R230): one operation, one
assignment, or one test with the jump it decides, so that the interrupt may fall between any two (R75, log 24). -/
def stepHost (s : State) : Out :=
  match s.pos with
  | .ready .boot      => execBoot s
  | .ready .waitStart => execWaitStart s
  | .ready .cycle     => execCycle s
  | .bootSensor => mapNext (enterSequence .sensorInit s) (State.setPos .bootSched)
  | .bootSched  => mapNext (initScheduler s) (State.setPos .bootLoop)
  | .bootLoop   => .next ((s.setLoop .waitForStart).setPos (.ready .waitStart))
  | .waitTest   => testStart s
  | .waitCapture => .next ((captureCal s).setPos .waitEnable)
  | .waitEnable => mapNext (enableScheduler s) (State.setPos .waitLoop)
  | .waitLoop   => .next ((s.setLoop .running).setPos (.ready .cycle))
  | .cycleJudge => judgeSample s
  | .cycleRezero  => .next (testRezero s)
  | .cycleCapture => .next ((captureCal s).setPos .cycleScaleX)
  | .cycleScaleX  => .next ((scaleX s).setPos .cycleScaleY)
  | .cycleScaleY  => .next ((scaleY s).setPos .cycleMode)
  | .cycleMode    => .next ((pickMode s).setPos .cycleMap)
  | .cycleMap     => .next ((mapSample s).setPos (.cycleStore 0))
  | .cycleStore k => mapNext (storeTarget k.val s.widths[k] s) (State.setPos (afterStore k))
  | .cyclePace  => .next (pollTick s)
  | .cycleClear => .next ((s.setTick 0).setPos (.ready .cycle))

/-- One foreground step: nothing while a primitive is in flight (the busy-wait, R41, R131), else the next step of the
sequence that runs, else the reference host's. -/
def stepForeground (s : State) : Out :=
  match s.pending, s.seq with
  | some _, _      => .next s
  | none, some run => stepSequence run s
  | none, none     => stepHost s

end Sys2Proof.Machine
end

