-- ==== Sys2Proof/Machine/WirePatterns.lean ====
section
/-!
DEFINITION. The wire patterns (30_encoding.md R90, R94, R96, R98, R99). Nobody issues a pattern: its meaning is that exactly
these bits go over the bus, so the transfers that carry them are put in flight, if they are not yet, and completed
(log 6). WIRE.BYTE alone does not say which side sends its byte, so it is refused where nothing else says so: with nothing
in flight and no sequence running (DESIGN CHOICE, log 6).
-/

namespace Sys2Proof.Machine

/-- WIRE.BYTE (R90): the nine slots of one transfer, the one in flight or the very next one of the sequence that runs. The
data bits are the sender's: of a byte the controller sends they are that byte, and the ninth slot is the target's draw; of a
byte it reads they are the target's draw, and the ninth slot is the controller's. DESIGN CHOICE (log 6; safe): with nothing
in flight and no sequence running, the bits do not say whether they are a WRITE_BYTE's or a READ_BYTE's, and the spec has no
rule for a pattern that no operation carries, so this is refused (otherTransfer). -/
def execWireByte (b : Byte) (slot9 : Bool) (s : State) : Out :=
  match s.nextTransfer with
  | some (.write c) => if c = b then transfer (.write c) (slotAck s.cfg slot9) b s else .refused .otherTransfer
  | some (.read k)  =>
    if slotAck s.cfg slot9 = readAck k then transfer (.read k) (slotAck s.cfg slot9) b s else .refused .otherTransfer
  | some .start | some .stop | none => .refused .otherTransfer

/-- WIRE.ADDR_W (R94): the first byte of a write frame. -/
def execWireAddrW (s : State) : Out := transferSent s.cfg.lit.addrW s

/-- WIRE.ADDR_R (R94): the first byte of a read frame. -/
def execWireAddrR (s : State) : Out := transferSent s.cfg.lit.addrR s

/-- WIRE.INIT1 (R96): the payload of the first initialisation frame. -/
def execWireInit1 (s : State) : Out := transferAllSent s.cfg.lit.init1 s

/-- WIRE.INIT2 (R96): the payload of the second initialisation frame. -/
def execWireInit2 (s : State) : Out := transferAllSent s.cfg.lit.init2 s

/-- WIRE.TRIG (R96): the payload of the trigger frame. -/
def execWireTrig (s : State) : Out := transferAllSent s.cfg.lit.trig s

/-- WIRE.SAMPLE (R98): the six data bytes of a read frame, ACK after the first five and NAK after the sixth. -/
def execWireSample (x y ax ay az : Byte) (r : BitVec 6) (btn : Code2) (s : State) : Out :=
  andThen (transferReceived x true s) fun s =>
  andThen (transferReceived y true s) fun s =>
  andThen (transferReceived ax true s) fun s =>
  andThen (transferReceived ay true s) fun s =>
  andThen (transferReceived az true s) fun s =>
  transferReceived (buttonByte r btn) false s

/-- WIRE.BUTTONS (R99): the sixth data byte, NAK after it. -/
def execWireButtons (r : BitVec 6) (btn : Code2) (s : State) : Out := transferReceived (buttonByte r btn) false s

end Sys2Proof.Machine
end

