-- ==== Sys2Proof/Machine/Dispatch.lean ====
section
/-!
DEFINITION. exec: one arm for each row of spec/opcode_table.json.
-/

namespace Sys2Proof.Machine

def exec (i : Instr) (s : State) : Host.Outcome State Fault Refusal :=
  match i with
  | .busInit => Sys2Proof.Machine.execBusInit s
  | .start => Sys2Proof.Machine.execStart s
  | .stop => Sys2Proof.Machine.execStop s
  | .writeByte b => Sys2Proof.Machine.execWriteByte b s
  | .readByte k => Sys2Proof.Machine.execReadByte k s
  | .delaySettle => Sys2Proof.Machine.execDelaySettle s
  | .sensorInit => Sys2Proof.Machine.execSensorInit s
  | .requestSample => Sys2Proof.Machine.execRequestSample s
  | .readSample => Sys2Proof.Machine.execReadSample s
  | .schedInit => Sys2Proof.Machine.execSchedInit s
  | .schedEnable => Sys2Proof.Machine.execSchedEnable s
  | .setTarget c w => Sys2Proof.Machine.execSetTarget c w s
  | .getTick => Sys2Proof.Machine.execGetTick s
  | .clrTick => Sys2Proof.Machine.execClrTick s
  | .compareMatch => Sys2Proof.Machine.execCompareMatch s
  | .clamp v => Sys2Proof.Machine.execClamp v s
  | .scale raw zero => Sys2Proof.Machine.execScale raw zero s
  | .mode btn dx dy => Sys2Proof.Machine.execMode btn dx dy s
  | .map dx dy m => Sys2Proof.Machine.execMap dx dy m s
  | .boot => Sys2Proof.Machine.execBoot s
  | .waitStart => Sys2Proof.Machine.execWaitStart s
  | .cycle => Sys2Proof.Machine.execCycle s
  | .wireByte b a => Sys2Proof.Machine.execWireByte b a s
  | .wireAddrW => Sys2Proof.Machine.execWireAddrW s
  | .wireAddrR => Sys2Proof.Machine.execWireAddrR s
  | .wireInit1 => Sys2Proof.Machine.execWireInit1 s
  | .wireInit2 => Sys2Proof.Machine.execWireInit2 s
  | .wireTrig => Sys2Proof.Machine.execWireTrig s
  | .wireSample x y ax ay az r btn => Sys2Proof.Machine.execWireSample x y ax ay az r btn s
  | .wireButtons r btn => Sys2Proof.Machine.execWireButtons r btn s

end Sys2Proof.Machine
end

