-- ==== Sys2Proof/Machine/Turns.lean ====
section
/-!
DEFINITION. One turn of one agent (00_scope.md R9, 20_memory.md R74), and which turn comes next.
-/

namespace Sys2Proof.Machine

/-- A presented word is decoded, with the literals of the configuration, and run; a word that names no row of the table is refused (30_encoding.md R111, R112). -/
def runWord (f : Fetch) (s : State) : Out :=
  match decode s.cfg.lit f with
  | .ok i    => exec i s
  | .error e => .refused (.badWord e)

/-- A turn. COMPARE_MATCH may take one whatever the foreground is doing (R75); the bus engine's has an effect only with a
primitive in flight (R131); the foreground's has none while one is (R41). -/
def takeTurn (t : Turn) (s : State) : Out :=
  match t with
  | .foreground        => stepForeground s
  | .timer             => execCompareMatch s
  | .shiftComplete a v => .next (complete a v s)
  | .present f         => runWord f s

/-- The turn that comes next and the state that has noted it: the oldest of the script, or a free one (log 2). -/
def nextTurn (s : State) : Turn × State :=
  match s.script with
  | t :: rest => (t, { s with script := rest })
  | []        => (Config.freeTurn s.turnNo, { s with turnNo := s.turnNo + 1 })

/-- Put a word of the table in front of all turns, so that the next step presents it. -/
def presentNext (f : Fetch) (s : State) : State := { s with script := .present f :: s.script }

end Sys2Proof.Machine
end

