-- ==== Sys2Proof/Machine/Step.lean ====
section
/-!
DEFINITION. The step of the machine: the next turn is taken.
-/

namespace Sys2Proof.Machine

/-- One step: the agent whose turn it is moves (00_scope.md R9, 20_memory.md R74). -/
def step (s : State) : Host.Outcome State Fault Refusal := takeTurn (nextTurn s).1 (nextTurn s).2

/-- The state whose very next step presents the word `w` of `nbits` bits (log 3, log 5). -/
def State.withFetchWord (s : State) (nbits w : Nat) : State := presentNext (tableFetch nbits w) s

end Sys2Proof.Machine
end

