-- ==== Sys2Proof/Safety.lean ====
section
/-!
DEFINITION. What a safe run is, in the terms the statements use: runs over a list of turns, the turns that drive a sequence
to its end, and the invariant that every step keeps (10_state.md R22, R30, R36; 42_pulse_scheduler.md R183, R192, R194;
41_sensor_client.md R160).
-/

namespace Sys2Proof.Machine

/-! ### Runs -/

/-- A list of turns, taken in order; a refusal ends the run. -/
def runTurns : List Turn → State → Out
  | [], s      => .next s
  | t :: ts, s => andThen (takeTurn t s) (runTurns ts)

/-- The turns that carry one step of a sequence to its end: the foreground issues it and, for a primitive, the bus engine
completes it with the draw `d` (40_bus_transport.md R131). -/
def driveStep (d : Ack × Byte) : SeqStep → List Turn
  | .prim _ => [.foreground, .shiftComplete d.1 d.2]
  | .delay  => [.foreground]

/-- The turns that carry a list of steps to its end, `d j` being the draw for step `j`, and one more turn of the foreground in
which the sequence returns (41_sensor_client.md R160). -/
def driveSteps (d : Nat → Ack × Byte) (l : List SeqStep) : List Turn :=
  (l.zipIdx.map fun (x, j) => driveStep (d j) x).flatten ++ [.foreground]

/-- The turns that carry a whole sequence to its end and return. -/
def driveSequence (c : Config) (d : Nat → Ack × Byte) (n : SeqName) : List Turn := driveSteps d (n.steps c.lit)

/-- `n` compare-match events, one after another. -/
def compareEvents : Nat → State → State
  | 0, s     => s
  | n + 1, s => compareEvents n (compareEvent s)

/-- The foreground's next step is the reference host's, at position `p`: nothing is in flight and no sequence runs. -/
abbrev State.HostAt (s : State) (p : HostPos) : Prop := s.pending = none ∧ s.seq = none ∧ s.pos = p

/-! ### What a running sequence has done -/

/-- BUS_OPEN after a list of sequence steps has completed. -/
def openAfter (l : List SeqStep) : Bool :=
  l.foldl (fun o x => match x with
    | .prim .start => true
    | .prim .stop  => false
    | _            => o) false

/-- How many of a list of sequence steps are byte reads. -/
def readsIn (l : List SeqStep) : Nat :=
  l.countP fun x => match x with
    | .prim (.read _) => true
    | _               => false

/-- How many steps of a running sequence have completed: all that were issued but the one in flight. -/
def completedSteps (s : State) (r : SeqRun) : Nat := if s.pending.isSome then r.pos - 1 else r.pos

/-- A running sequence stands where its list of steps says (R160): the primitive in flight is the one last issued, BUS_OPEN is
what the completed steps leave, and each completed read has left its byte. -/
structure SeqAt (s : State) (r : SeqRun) : Prop where
  pos_le   : r.pos ≤ (r.name.steps s.cfg.lit).length
  inFlight : ∀ p, s.pending = some p → 0 < r.pos ∧ (r.name.steps s.cfg.lit)[r.pos - 1]? = some (.prim p)
  isOpen   : s.busOpen = openAfter ((r.name.steps s.cfg.lit).take (completedSteps s r))
  bytes    : r.got.length = readsIn ((r.name.steps s.cfg.lit).take (completedSteps s r))

/-! ### The invariant -/

/-- The trace of pulses is what the scheduler's cycle gives (R189, R192): it begins with P0, goes on in the fixed order, and ends
with the state the scheduler is in. -/
structure PulseOrder (s : State) : Prop where
  first : ∀ p, s.pulse.head? = some p → p.phase = .p0
  order : s.pulse.IsChain fun a b => b.phase = a.phase.succ
  last  : ∀ p, s.pulse.getLast? = some p → p.phase = s.phase
  empty : s.pulse = [] → s.phase = .gap

/-- A record of the pulse trace is in range (R194). -/
abbrev Pulse.Legal (c : Config) (p : Pulse) : Prop := if p.phase = .gap then p.count = c.gap else c.InRange p.count

/-- The invariant of the machine. -/
structure State.Inv (s : State) : Prop where
  /-- the constraints of R8 -/
  config    : s.cfg.Ok
  /-- R22: every target stays within the valid range -/
  targets   : ∀ i : Channel, s.cfg.InRange s.target[i]
  /-- R30: an output is active exactly in its own scheduler state -/
  outputs   : ∀ i : Channel, s.out[i] = .active ↔ s.phase.channel = some i
  /-- R36: TICK fits its width -/
  tickFits  : s.tick < 2 ^ s.cfg.tickBits
  /-- R183: IE is set only with the timer armed -/
  armed     : s.ie = true → s.armed = true
  /-- R183, R299: inert until enabled -/
  inert     : s.ie = false → s.pulse = [] ∧ s.tick = 0
  /-- R194: every interval programmed is legal -/
  pulses    : ∀ p ∈ s.pulse, p.Legal s.cfg
  /-- R35: CMP holds the interval last programmed -/
  compare   : ∀ p, s.pulse.getLast? = some p → s.cmp = p.count
  /-- R189: the scheduler cycles in the fixed order -/
  trace     : PulseOrder s
  /-- R133: the primitive in flight was legal when issued, and the bus has not moved since -/
  inFlight  : ∀ p, s.pending = some p → s.busOpen = p.needsOpen
  /-- R160: a running sequence stands where its list says -/
  sequence  : ∀ r, s.seq = some r → SeqAt s r
  /-- R221 to R225: inside a host procedure and outside a sequence, no frame is open and nothing is in flight -/
  procedure : s.seq = none → (∀ p, s.pos ≠ .ready p) → s.busOpen = false ∧ s.pending = none
  /-- R9: a sequence runs under a host procedure only where that procedure called it -/
  called    : ∀ r, s.seq = some r → (∃ p, s.pos = .ready p) ∨ s.pos = .bootSched ∨ s.pos = .waitTest ∨ s.pos = .cycleJudge
  /-- R229, R231 b: the widths about to be stored are in range -/
  stored    : ∀ k, s.pos = .cycleStore k → ∀ i : Channel, s.cfg.InRange s.widths[i]

end Sys2Proof.Machine
end

