-- ==== Sys2Proof/Certificates/Slice0/Obligations.lean ====
section
/-!
DEFINITION. The statements for the provers. `next t` with `t` written as `{ s with … }` states the frame as well: every field
not named is as it was.
-/

open Sys2Proof Sys2Proof.Machine

/-! ### The step and the words -/

/-- A presented word that decodes, with the configuration's literals, to `i` makes the step exec of `i`, at the state that has noted the
turn; a word that names no row is refused with the decoder's reason (30_encoding.md section 3 and section 4). That a word
presented from outside runs in the step is the model's choice (log 3), and so is that the words of COMPARE_MATCH and of the
host's functions, which the spec calls not issuable, run too (log 27). -/
def Obligations.StepRunsPresentedWord : Prop :=
  ∀ (s : State) (f : Fetch) (rest : List Turn), s.script = .present f :: rest →
    (∀ i, decode s.cfg.lit f = .ok i → step s = exec i { s with script := rest }) ∧
    (∀ e, decode s.cfg.lit f = .error e → step s = .refused (.badWord e))

/-- The oldest turn of the script is the one that is taken, by the agent it names; past the end of the script the turn is the
environment's free choice, counted (00_scope.md section 5, 20_memory.md section 3; log 2). -/
def Obligations.StepTakesTheOldestTurn : Prop :=
  ∀ (s : State) (rest : List Turn),
    (s.script = .foreground :: rest → step s = stepForeground { s with script := rest }) ∧
    (s.script = .timer :: rest → step s = exec .compareMatch { s with script := rest }) ∧
    (∀ a v, s.script = .shiftComplete a v :: rest → step s = .next (complete a v { s with script := rest })) ∧
    (s.script = [] → step s = takeTurn (Config.freeTurn s.turnNo) { s with turnNo := s.turnNo + 1 })

/-- A word of the table placed by withFetchWord is what the very next step runs, at the unchanged state, whose literals are the
document's (log 3). -/
def Obligations.FetchedWordRunsInTheNextStep : Prop :=
  ∀ (s : State) (nbits w : Nat) (i : Instr), s.cfg.lit = {} → decodeTableWord nbits w = some i →
    step (s.withFetchWord nbits w) = exec i s

/-- Every well-formed instruction, with every operand, is what its own word decodes to (with the document's literals). -/
def Obligations.DecodeOfEncode : Prop :=
  ∀ i : Instr, i.wellFormed = true → decode {} (encode {} i) = .ok i

/-- Each word has one meaning: a word that decodes is the word of a well-formed instruction (with the document's literals). -/
def Obligations.DecodedWordIsTheEncoding : Prop :=
  ∀ (f : Fetch) (i : Instr), decode {} f = .ok i → i.wellFormed = true ∧ encode {} i = f

/-- 30_encoding.md section 4: an operation number not in the list names no operation, whatever its operands; the numbers of the
list are distinct. -/
def Obligations.ReservedOperationNumbersRefused : Prop :=
  (∀ (l : Literals) (n : Byte) (operands : List Int), n ∉ Op.all.map Op.number →
    decode l (.command n operands) = .error .reservedOp) ∧
  (∀ o o' : Op, o.number = o'.number → o = o') ∧ (∀ o : Op, o ∈ Op.all)

/-- A few words written out from the table of 30_encoding.md section 3 and the patterns of section 1. -/
def Obligations.SpecWordsDecode : Prop :=
  decode {} (.command 0x00 []) = .ok .busInit ∧
  decode {} (.command 0x03 [0xA4]) = .ok (.writeByte 0xA4) ∧
  decode {} (.command 0x12 []) = .ok .requestSample ∧
  decode {} (.command 0x22 [2, 207]) = .ok (.setTarget 2 207) ∧
  decode {} (.command 0x2F []) = .ok .compareMatch ∧
  decode {} (.command 0x31 [140, 100]) = .ok (.scale 140 100) ∧
  decode {} (.wire .address [true, false, true, false, false, true, false, true]) = .ok .wireAddrR ∧
  decode {} (.wire .buttons [true, true, true, true, true, true, true, false]) = .ok (.wireButtons 0b111111 0b10)

/-- R62: a byte goes bit 7 first, bit 0 last, the acknowledge slot after bit 0, in either direction and in every pattern: one transfer,
the address bytes (at whatever value a configuration gives them), the payloads, the sample, the button byte; 0xA4 goes out as 1, 0,
1, 0, 0, 1, 0, 0. Neither `encode` nor `decode` has an argument that could switch it. -/
def Obligations.BytesGoMostSignificantBitFirst : Prop :=
  (∀ (l : Literals) (b : Byte) (a : Bool), encode l (.wireByte b a) =
    .wire .transfer [b.getLsbD 7, b.getLsbD 6, b.getLsbD 5, b.getLsbD 4, b.getLsbD 3, b.getLsbD 2, b.getLsbD 1, b.getLsbD 0, a]) ∧
  (∀ (l : Literals) (b7 b6 b5 b4 b3 b2 b1 b0 a : Bool), ∃ b : Byte,
    decode l (.wire .transfer [b7, b6, b5, b4, b3, b2, b1, b0, a]) = .ok (.wireByte b a) ∧
    b.getLsbD 7 = b7 ∧ b.getLsbD 6 = b6 ∧ b.getLsbD 5 = b5 ∧ b.getLsbD 4 = b4 ∧
    b.getLsbD 3 = b3 ∧ b.getLsbD 2 = b2 ∧ b.getLsbD 1 = b1 ∧ b.getLsbD 0 = b0) ∧
  (∀ (l : Literals) (b : Byte), l.addrW = b → encode l .wireAddrW =
    .wire .address [b.getLsbD 7, b.getLsbD 6, b.getLsbD 5, b.getLsbD 4, b.getLsbD 3, b.getLsbD 2, b.getLsbD 1, b.getLsbD 0]) ∧
  (∀ (l : Literals) (b : Byte), l.addrR = b → encode l .wireAddrR =
    .wire .address [b.getLsbD 7, b.getLsbD 6, b.getLsbD 5, b.getLsbD 4, b.getLsbD 3, b.getLsbD 2, b.getLsbD 1, b.getLsbD 0]) ∧
  encode {} .wireAddrW = .wire .address [true, false, true, false, false, true, false, false] ∧
  encode {} .wireAddrR = .wire .address [true, false, true, false, false, true, false, true] ∧
  encode {} .wireInit1 = .wire .payload
    [true, true, true, true, false, false, false, false, false, true, false, true, false, true, false, true] ∧
  encode {} .wireInit2 = .wire .payload
    [true, true, true, true, true, false, true, true, false, false, false, false, false, false, false, false] ∧
  encode {} .wireTrig = .wire .payload [false, false, false, false, false, false, false, false] ∧
  (∀ (l : Literals) (x y ax ay az : Byte) (r : BitVec 6) (btn : Code2), encode l (.wireSample x y ax ay az r btn) = .wire .sample
    [x.getLsbD 7, x.getLsbD 6, x.getLsbD 5, x.getLsbD 4, x.getLsbD 3, x.getLsbD 2, x.getLsbD 1, x.getLsbD 0,
     y.getLsbD 7, y.getLsbD 6, y.getLsbD 5, y.getLsbD 4, y.getLsbD 3, y.getLsbD 2, y.getLsbD 1, y.getLsbD 0,
     ax.getLsbD 7, ax.getLsbD 6, ax.getLsbD 5, ax.getLsbD 4, ax.getLsbD 3, ax.getLsbD 2, ax.getLsbD 1, ax.getLsbD 0,
     ay.getLsbD 7, ay.getLsbD 6, ay.getLsbD 5, ay.getLsbD 4, ay.getLsbD 3, ay.getLsbD 2, ay.getLsbD 1, ay.getLsbD 0,
     az.getLsbD 7, az.getLsbD 6, az.getLsbD 5, az.getLsbD 4, az.getLsbD 3, az.getLsbD 2, az.getLsbD 1, az.getLsbD 0,
     r.getLsbD 5, r.getLsbD 4, r.getLsbD 3, r.getLsbD 2, r.getLsbD 1, r.getLsbD 0, btn.getLsbD 1, btn.getLsbD 0]) ∧
  (∀ (l : Literals) (r : BitVec 6) (btn : Code2), encode l (.wireButtons r btn) =
    .wire .buttons [r.getLsbD 5, r.getLsbD 4, r.getLsbD 3, r.getLsbD 2, r.getLsbD 1, r.getLsbD 0, btn.getLsbD 1, btn.getLsbD 0]) ∧
  (∀ a : Bool, encode {} (.wireByte 0xA4 a) = .wire .transfer [true, false, true, false, false, true, false, false, a])

/-! ### Bus Transport -/

/-- BUS_INIT between operations closes the frame and leaves nothing in flight, and writes nothing else (40_bus_transport.md
section 2; what it writes is the spec's own choice D8); with a primitive in flight it is refused. -/
def Obligations.BusInitClosesTheFrame : Prop :=
  ∀ s : State,
    (s.atBoundary = true → exec .busInit s = .next { s with busOpen := false, pending := none }) ∧
    (∀ p, s.pending = some p → exec .busInit s = .refused .primitivePending)

/-- START between frames: Issue puts it in flight and nothing else; whatever the target does, Complete appends `S` and opens the
frame (40_bus_transport.md section 2; BUS_OPEN and the two-step view are the spec's own choices D4, D7). -/
def Obligations.StartOpensAFrame : Prop :=
  ∀ s : State, s.atBoundary = true → s.busOpen = false →
    exec .start s = .next { s with pending := some .start } ∧
    ∀ a v, takeTurn (.shiftComplete a v) { s with pending := some .start } =
      .next { s with pending := none, wire := s.wire ++ [.start], busOpen := true }

/-- STOP in a frame: Issue, then Complete appends `P` and closes the frame (40_bus_transport.md section 2; D4, D7). -/
def Obligations.StopClosesTheFrame : Prop :=
  ∀ s : State, s.atBoundary = true → s.busOpen = true →
    exec .stop s = .next { s with pending := some .stop } ∧
    ∀ a v, takeTurn (.shiftComplete a v) { s with pending := some .stop } =
      .next { s with pending := none, wire := s.wire ++ [.stop], busOpen := false }

/-- WRITE_BYTE b in a frame: Issue, then Complete appends `W(b, a)` and returns `a`, for every acknowledge bit `a` the target
draws; a NAK is no error (40_bus_transport.md section 2; D4, D6, D7). -/
def Obligations.WriteByteSendsTheByte : Prop :=
  ∀ (s : State) (b : Byte), s.atBoundary = true → s.busOpen = true →
    exec (.writeByte b) s = .next { s with pending := some (.write b) } ∧
    ∀ a v, takeTurn (.shiftComplete a v) { s with pending := some (.write b) } =
      .next { s with pending := none, wire := s.wire ++ [.sent b a], ret := .ack a }

/-- READ_BYTE send_ack in a frame: Issue, then Complete appends `R(v, ACK)` or `R(v, NAK)` as send_ack says and returns `v`, for
every byte `v` the target draws (40_bus_transport.md section 2; D4, D6, D7). -/
def Obligations.ReadByteReturnsTheByte : Prop :=
  ∀ (s : State) (k : Bool), s.atBoundary = true → s.busOpen = true →
    exec (.readByte k) s = .next { s with pending := some (.read k) } ∧
    ∀ a v, takeTurn (.shiftComplete a v) { s with pending := some (.read k) } =
      .next { s with
        pending := none
        wire := s.wire ++ [.received v (if k then .ack else .nak)]
        ret := .byte v }

/-- 40_bus_transport.md section 1 (the spec's own choice D4): a primitive is refused while another is in flight, START in a frame,
and STOP, WRITE_BYTE and READ_BYTE outside one. -/
def Obligations.PrimitivesOutOfOrderRefused : Prop :=
  ∀ s : State,
    (∀ p, s.pending = some p →
      exec .start s = .refused .primitivePending ∧ exec .stop s = .refused .primitivePending ∧
      (∀ b, exec (.writeByte b) s = .refused .primitivePending) ∧ (∀ k, exec (.readByte k) s = .refused .primitivePending)) ∧
    (s.atBoundary = true → s.busOpen = true → exec .start s = .refused .busOrder) ∧
    (s.atBoundary = true → s.busOpen = false →
      exec .stop s = .refused .busOrder ∧ (∀ b, exec (.writeByte b) s = .refused .busOrder) ∧
      (∀ k, exec (.readByte k) s = .refused .busOrder))

/-- 70_reset_and_hazards.md section 3, stall with live outputs: while the bus engine does not complete the primitive in flight,
whatever turns the foreground and the timer take, the run goes on and is that of the timer's events alone: only the outputs, CMP,
TICK, PULSE and phase may move, so nothing moves on the bus, in the sample, in the targets or in the host; and with the interrupt
enabled every compare-match still adds its pulse. -/
def Obligations.StalledBusBlocksForegroundOnly : Prop :=
  ∀ (s : State) (p : Prim) (ts : List Turn), s.pending = some p → (∀ t ∈ ts, t = .foreground ∨ t = .timer) →
    ∃ t, runTurns ts s = .next t ∧ t = compareEvents (ts.count .timer) s ∧
      t = { s with out := t.out, cmp := t.cmp, tick := t.tick, pulse := t.pulse, phase := t.phase } ∧
      (s.interruptEnabled = true → t.pulse.length = s.pulse.length + ts.count .timer)

/-- 20_memory.md section 3, independence of the halves: a compare-match commutes with Complete, with every Issue, with every step
of a sequence and with BUS_INIT. -/
def Obligations.CompareMatchCommutesWithTheBus : Prop :=
  ∀ s : State,
    (∀ a v, compareEvent (complete a v s) = complete a v (compareEvent s)) ∧
    (∀ p, mapNext (issue p s) compareEvent = issue p (compareEvent s)) ∧
    (∀ run, mapNext (stepSequence run s) compareEvent = stepSequence run (compareEvent s)) ∧
    (∀ n, mapNext (enterSequence n s) compareEvent = enterSequence n (compareEvent s)) ∧
    mapNext (exec .busInit s) compareEvent = exec .busInit (compareEvent s)

/-! ### Motion Sensor Client -/

/-- DELAY_SETTLE outside a frame appends `D` and changes nothing else; inside one it is refused (41_sensor_client.md section 2;
the precondition on BUS_OPEN is the spec's own, D4). -/
def Obligations.DelaySettleAppendsD : Prop :=
  ∀ s : State, s.atBoundary = true →
    (s.busOpen = false → exec .delaySettle s = .next { s with wire := s.wire ++ [.delay] }) ∧
    (s.busOpen = true → exec .delaySettle s = .refused .delayInFrame)

/-- SENSOR_INIT between frames is entered, and, for every draw of the bus engine's answers, its ten primitives and one delay run to
the end: WIRE gains the two initialisation frames with `D` between them and nothing else changes (41_sensor_client.md
section 2; place of START, STOP and `D`: the spec's own choices D2, D3). In a frame it is refused. -/
def Obligations.SensorInitSendsBothFrames : Prop :=
  ∀ (s : State) (d : Nat → Ack × Byte), s.cfg.Ok → s.atBoundary = true →
    (s.busOpen = true → exec .sensorInit s = .refused .busOrder) ∧
    (s.busOpen = false →
      exec .sensorInit s = .next { s with seq := some { name := .sensorInit, pos := 0, got := [] } } ∧
      runTurns (driveSequence s.cfg d .sensorInit) { s with seq := some { name := .sensorInit, pos := 0, got := [] } } =
        .next { s with wire := s.wire ++
          [.start, .sent 0xA4 (d 1).1, .sent 0xF0 (d 2).1, .sent 0x55 (d 3).1, .stop, .delay,
           .start, .sent 0xA4 (d 7).1, .sent 0xFB (d 8).1, .sent 0x00 (d 9).1, .stop] })

/-- READ_SAMPLE between frames is entered, and, for every draw, its nine primitives run to the end: WIRE gains the read frame, ACK
after the first five bytes and NAK after the sixth, SAMPLE holds the six bytes in order with the sixth masked to its two low
bits, and that sample is returned; nothing else changes (41_sensor_client.md section 2; D2). In a frame it is refused. -/
def Obligations.ReadSampleFillsSample : Prop :=
  ∀ (s : State) (d : Nat → Ack × Byte), s.cfg.Ok → s.atBoundary = true →
    (s.busOpen = true → exec .readSample s = .refused .busOrder) ∧
    (s.busOpen = false →
      exec .readSample s = .next { s with seq := some { name := .readSample, pos := 0, got := [] } } ∧
      ∀ v : Sample,
        v = { x := (d 2).2, y := (d 3).2, ax := (d 4).2, ay := (d 5).2, az := (d 6).2, btn := ((d 7).2 &&& 0b11).setWidth 2 } →
        runTurns (driveSequence s.cfg d .readSample) { s with seq := some { name := .readSample, pos := 0, got := [] } } =
          .next { s with
            sample := v
            ret := .sample v
            wire := s.wire ++
              [.start, .sent 0xA5 (d 1).1, .received (d 2).2 .ack, .received (d 3).2 .ack, .received (d 4).2 .ack,
               .received (d 5).2 .ack, .received (d 6).2 .ack, .received (d 7).2 .nak, .stop] })

/-- REQUEST_SAMPLE between frames is entered, and, for every draw, runs to the end: the trigger frame with its one payload byte 00,
the delay, and the read frame; SAMPLE as READ_SAMPLE leaves it, whatever the acknowledge bits (41_sensor_client.md section 2;
D2). In a frame it is refused. -/
def Obligations.RequestSampleTriggersAndReads : Prop :=
  ∀ (s : State) (d : Nat → Ack × Byte), s.cfg.Ok → s.atBoundary = true →
    (s.busOpen = true → exec .requestSample s = .refused .busOrder) ∧
    (s.busOpen = false →
      exec .requestSample s = .next { s with seq := some { name := .requestSample, pos := 0, got := [] } } ∧
      ∀ v : Sample,
        v = { x := (d 7).2, y := (d 8).2, ax := (d 9).2, ay := (d 10).2, az := (d 11).2, btn := ((d 12).2 &&& 0b11).setWidth 2 } →
        runTurns (driveSequence s.cfg d .requestSample) { s with seq := some { name := .requestSample, pos := 0, got := [] } } =
          .next { s with
            sample := v
            ret := .sample v
            wire := s.wire ++
              [.start, .sent 0xA4 (d 1).1, .sent 0x00 (d 2).1, .stop, .delay,
               .start, .sent 0xA5 (d 6).1, .received (d 7).2 .ack, .received (d 8).2 .ack, .received (d 9).2 .ack,
               .received (d 10).2 .ack, .received (d 11).2 .ack, .received (d 12).2 .nak, .stop] })

/-- 41_sensor_client.md section 1, 20_memory.md section 3: compare-matches that fall anywhere inside a sample read do not affect
it. However they are interleaved, the read ends with the same frame on WIRE, the same SAMPLE and the bus closed. -/
def Obligations.SampleReadUnaffectedByInterrupts : Prop :=
  ∀ (s : State) (d : Nat → Ack × Byte) (ts : List Turn), s.cfg.Ok → s.atBoundary = true → s.busOpen = false →
    ts.filter (· != .timer) = driveSequence s.cfg d .readSample →
    ∃ u t, exec .readSample s = .next u ∧ runTurns ts u = .next t ∧
      t.sample = { x := (d 2).2, y := (d 3).2, ax := (d 4).2, ay := (d 5).2, az := (d 6).2, btn := ((d 7).2 &&& 0b11).setWidth 2 } ∧
      t.wire = s.wire ++
        [.start, .sent 0xA5 (d 1).1, .received (d 2).2 .ack, .received (d 3).2 .ack, .received (d 4).2 .ack,
         .received (d 5).2 .ack, .received (d 6).2 .ack, .received (d 7).2 .nak, .stop] ∧
      t.busOpen = false ∧ t.pending = none ∧ t.seq = none ∧ t.ret = .sample t.sample

/-- 41_sensor_client.md section 1: a sequence that does not hang always runs to its end. In a state of the invariant the
foreground's step in a running sequence is never refused. -/
def Obligations.RunningSequenceIsNeverRefused : Prop :=
  ∀ (s : State) (r : SeqRun), s.Inv → s.seq = some r → ∃ t, stepForeground s = .next t

/-! ### Pulse Scheduler -/

/-- SCHED_INIT between operations with IE = 0: outputs inactive, timer armed, phase Gap, TICK 0, nothing else written; refused with
IE = 1 (42_pulse_scheduler.md section 2; phase, TICK and the refusal are the spec's own choice D32). -/
def Obligations.SchedInitArmsTheTimer : Prop :=
  ∀ s : State, s.atBoundary = true →
    (s.ie = false → exec .schedInit s =
      .next { s with out := Vector.replicate 4 .inactive, armed := true, phase := .gap, tick := 0 }) ∧
    (s.ie = true → exec .schedInit s = .refused .schedulerEnabled)

/-- SCHED_ENABLE (42_pulse_scheduler.md section 2) requires ARMED = 1, else it is refused (the model declines, as the spec chooses),
and sets IE and nothing else; twice is harmless; after SCHED_INIT (which leaves Gap, the spec's own choice D9, D32) and
SCHED_ENABLE the first event enters P0, asserts output 0 and sees the targets the foreground wrote before. Inert while IE = 0: no
event has any effect (that the machine then answers the state unchanged and keeps no event is the spec's own choice D12, read so
in log 18), and no step from a state with all outputs inactive, TICK 0 and PULSE empty changes these.
No step clears IE again. -/
def Obligations.SchedEnableSetsIe : Prop :=
  (∀ s : State, s.atBoundary = true →
    (s.armed = true → exec .schedEnable s = .next { s with ie := true }) ∧
    (s.armed = false → exec .schedEnable s = .refused .timerNotArmed) ∧
    (s.armed = true → s.ie = true → exec .schedEnable s = .next s) ∧
    (s.ie = false → ∃ t u, andThen (exec .schedInit s) (exec .schedEnable) = .next t ∧ exec .compareMatch t = .next u ∧
      u.phase = .p0 ∧ u.out = #v[.active, .inactive, .inactive, .inactive] ∧ u.cmp = s.target[0])) ∧
  (∀ s : State, s.ie = false → exec .compareMatch s = .next s) ∧
  (∀ s t : State, step s = .next t → s.ie = false → s.out = Vector.replicate 4 .inactive → s.tick = 0 → s.pulse = [] →
    t.out = Vector.replicate 4 .inactive ∧ t.tick = 0 ∧ t.pulse = []) ∧
  (∀ s t : State, step s = .next t → s.ie = true → t.ie = true)

/-- SET_TARGET (42_pulse_scheduler.md section 2) stores an in-range width in its channel and writes nothing else (no pulse in progress
changes), before or after SCHED_INIT and SCHED_ENABLE; a channel outside 0..3 or a width out of range is refused (the spec's own
choice D14); storing the value held has no effect; the next entry to that channel's state uses the new width. -/
def Obligations.SetTargetStoresTheWidth : Prop :=
  ∀ (s : State) (w : Nat), s.atBoundary = true →
    (∀ i : Channel, s.cfg.InRange w → exec (.setTarget i w) s = .next { s with target := s.target.set i w }) ∧
    (∀ i : Nat, 4 ≤ i → exec (.setTarget i w) s = .refused .noSuchChannel) ∧
    (∀ i : Channel, w < s.cfg.wMin ∨ s.cfg.wMax < w → exec (.setTarget i w) s = .refused .widthOutOfRange) ∧
    (∀ i : Channel, s.cfg.InRange w → s.target[i] = w → exec (.setTarget i w) s = .next s) ∧
    (∀ i : Channel, s.cfg.InRange w → s.interruptEnabled = true → s.phase.succ.channel = some i →
      ∃ t u, exec (.setTarget i w) s = .next t ∧ exec .compareMatch t = .next u ∧ u.cmp = w)

/-- R186: GET_TICK returns TICK and changes nothing else. Between two reads TICK moves by the frames that ended between them, the Gap
records the events added to PULSE (at most one for each five events, rounded up): it differs by at most one when no more than the five
events of a frame came, and the second is never smaller than the first unless TICK wrapped, at its width; after five events from Gap with
TICK 0 it returns 1. -/
def Obligations.GetTickReadsWithoutClearing : Prop :=
  ∀ s : State, s.atBoundary = true →
    exec .getTick s = .next { s with ret := .tick s.tick } ∧
    (∀ n, s.tick < 2 ^ s.cfg.tickBits →
      ∃ t g, exec .getTick (compareEvents n s) = .next t ∧ t.ret = .tick (compareEvents n s).tick ∧
        g = ((compareEvents n s).pulse.drop s.pulse.length).countP (·.phase = .gap) ∧ g ≤ (n + 4) / 5 ∧ (n ≤ 5 → g ≤ 1) ∧
        (compareEvents n s).tick = (s.tick + g) % 2 ^ s.cfg.tickBits ∧
        (s.tick + g < 2 ^ s.cfg.tickBits →
          s.tick ≤ (compareEvents n s).tick ∧ (n ≤ 5 → (compareEvents n s).tick ≤ s.tick + 1))) ∧
    (s.cfg.Ok → s.interruptEnabled = true → s.phase = .gap → s.tick = 0 →
      ∃ t, exec .getTick (compareEvents 5 s) = .next t ∧ t.ret = .tick 1)

/-- R187: CLR_TICK sets TICK to 0 and changes nothing else, phase included; a tick that arrives before the store is lost; the first
tick after a clear comes within one frame. -/
def Obligations.ClrTickClears : Prop :=
  ∀ s : State, s.atBoundary = true →
    exec .clrTick s = .next { s with tick := 0 } ∧
    (∀ u, exec .compareMatch s = .next u → ∃ t, exec .clrTick u = .next t ∧ t.tick = 0) ∧
    (s.cfg.Ok → s.interruptEnabled = true → ∃ t n, exec .clrTick s = .next t ∧ 1 ≤ n ∧ n ≤ 5 ∧ (compareEvents n t).tick = 1)

/-- R190: the whole handler. When armed and enabled: entering Pk, all outputs inactive but k, CMP and the record both the target
read once, TICK unchanged; entering Gap, all outputs inactive, CMP and the record the gap, TICK one more at its width (the wrap: also D10).
Nothing else changes, whatever CMP and OUT held and whatever the foreground is doing. -/
def Obligations.CompareMatchIsTheHandler : Prop :=
  ∀ s : State, s.armed = true → s.ie = true →
    (∀ k : Channel, s.phase.succ.channel = some k →
      exec .compareMatch s = .next { s with
        out := (Vector.replicate 4 .inactive).set k .active
        cmp := s.target[k]
        pulse := s.pulse ++ [{ phase := s.phase.succ, count := s.target[k] }]
        phase := s.phase.succ }) ∧
    (s.phase.succ = .gap →
      exec .compareMatch s = .next { s with
        out := Vector.replicate 4 .inactive
        cmp := s.cfg.gap
        tick := (s.tick + 1) % 2 ^ s.cfg.tickBits
        pulse := s.pulse ++ [{ phase := .gap, count := s.cfg.gap }]
        phase := .gap })

/-- 42_pulse_scheduler.md section 3: the event has an effect exactly when ARMED = 1 and IE = 1; otherwise it is lost (the spec's
own choice D12; log 18). -/
def Obligations.CompareMatchOnlyWhenArmedAndEnabled : Prop :=
  ∀ s : State,
    (exec .compareMatch s = .next s ↔ ¬(s.armed = true ∧ s.ie = true))

/-- R189: the successor function, its one cycle of length 5, and that in every state of the invariant a step leaves phase as it is or
moves it to its successor. -/
def Obligations.PhaseMovesOnlyToItsSuccessor : Prop :=
  (Phase.succ .p0 = .p1 ∧ Phase.succ .p1 = .p2 ∧ Phase.succ .p2 = .p3 ∧ Phase.succ .p3 = .gap ∧ Phase.succ .gap = .p0) ∧
  (∀ p : Phase, p.succ.succ.succ.succ.succ = p ∧ p.succ ≠ p ∧ p.succ.succ ≠ p ∧ p.succ.succ.succ ≠ p ∧
    p.succ.succ.succ.succ ≠ p) ∧
  (∀ s t : State, s.Inv → step s = .next t → t.phase = s.phase ∨ t.phase = s.phase.succ)

/-- 42_pulse_scheduler.md section 4, the n-th event law: from Gap the n-th compare-match enters P0, P1, P2, P3, Gap as n mod 5 is
1, 2, 3, 4, 0, and TICK has grown by floor(n / 5) at its width. -/
def Obligations.NthCompareMatch : Prop :=
  ∀ (s : State) (n : Nat), s.interruptEnabled = true → s.phase = .gap → s.tick < 2 ^ s.cfg.tickBits →
    (compareEvents n s).phase =
      (if n % 5 = 1 then .p0 else if n % 5 = 2 then .p1 else if n % 5 = 3 then .p2 else if n % 5 = 4 then .p3 else .gap) ∧
    (compareEvents n s).tick = (s.tick + n / 5) % 2 ^ s.cfg.tickBits ∧
    (compareEvents n s).pulse.length = s.pulse.length + n

/-- 42_pulse_scheduler.md section 4, the frame law: from Gap, five events add the four target widths in channel order and the gap,
and the frame's length lies between 4·W_MIN + GAP and 4·W_MAX + GAP. -/
def Obligations.FiveEventsMakeAFrame : Prop :=
  ∀ s : State, s.interruptEnabled = true → s.phase = .gap →
    (compareEvents 5 s).pulse = s.pulse ++
      [{ phase := .p0, count := s.target[0] }, { phase := .p1, count := s.target[1] },
       { phase := .p2, count := s.target[2] }, { phase := .p3, count := s.target[3] },
       { phase := .gap, count := s.cfg.gap }] ∧
    ((∀ i : Channel, s.cfg.InRange s.target[i]) →
      4 * s.cfg.wMin + s.cfg.gap ≤ s.target[0] + s.target[1] + s.target[2] + s.target[3] + s.cfg.gap ∧
      s.target[0] + s.target[1] + s.target[2] + s.target[3] + s.cfg.gap ≤ 4 * s.cfg.wMax + s.cfg.gap)

/-- 42_pulse_scheduler.md section 4, the latency law: a width stored in channel k is emitted at the next entry to Pk, at most five
events later, and no earlier event of those asserts output k. -/
def Obligations.StoredWidthEmittedWithinOneFrame : Prop :=
  ∀ (s : State) (k : Channel) (w : Nat), s.atBoundary = true → s.interruptEnabled = true → s.cfg.InRange w →
    ∃ t n, exec (.setTarget k w) s = .next t ∧ 1 ≤ n ∧ n ≤ 5 ∧
      (compareEvents n t).phase.channel = some k ∧ (compareEvents n t).cmp = w ∧
      (∀ m, 1 ≤ m → m < n → (compareEvents m t).phase.channel ≠ some k)

/-- R31, R32 and 42_pulse_scheduler.md section 2: SCHED_ENABLE sets IE and SCHED_INIT sets ARMED, two separate bits; no step clears
either; only SCHED_ENABLE, presented or in WAIT_START, sets IE, and only with the timer armed. An event has an effect only while both
are set: that it otherwise answers the state unchanged is log 18 (the spec's own choice D12). -/
def Obligations.EnableBitsAreNeverCleared : Prop :=
  (∀ s t : State, exec .schedEnable s = .next t → t.ie = true ∧ t.armed = s.armed) ∧
  (∀ s t : State, exec .schedInit s = .next t → t.armed = true ∧ t.ie = s.ie) ∧
  (∀ s t : State, step s = .next t → (s.ie = true → t.ie = true) ∧ (s.armed = true → t.armed = true)) ∧
  (∀ s t : State, step s = .next t → s.ie = false → t.ie = true →
    s.armed = true ∧ ((nextTurn s).1 = .present (.command 0x21 []) ∨ ((nextTurn s).1 = .foreground ∧ s.pos = .waitEnable))) ∧
  (∀ s : State, ¬(s.ie = true ∧ s.armed = true) → exec .compareMatch s = .next s)

/-- 10_state.md section 10, the access table, with the operation each write belongs to. Over every instruction but COMPARE_MATCH, and over
every foreground step (of which only the reference host's step at the position of the same operation writes): CMP and PULSE are
never written; OUT, phase and ARMED only by SCHED_INIT, to their reset values and armed; TICK only by SCHED_INIT and CLR_TICK, to 0;
IE only by SCHED_ENABLE, to 1; TARGET only by SET_TARGET, one in-range width in one channel. The bus engine's step writes none. -/
def Obligations.ForegroundAccessRights : Prop :=
  (∀ (i : Instr) (s t : State), i ≠ .compareMatch → exec i s = .next t →
    t.cmp = s.cmp ∧ t.pulse = s.pulse ∧
    (i = .schedInit → t.out = Vector.replicate 4 .inactive ∧ t.phase = .gap ∧ t.armed = true ∧ t.tick = 0) ∧
    (i ≠ .schedInit → t.out = s.out ∧ t.phase = s.phase ∧ t.armed = s.armed) ∧
    (i = .clrTick → t.tick = 0) ∧ (i ≠ .schedInit → i ≠ .clrTick → t.tick = s.tick) ∧
    (i = .schedEnable → t.ie = true) ∧ (i ≠ .schedEnable → t.ie = s.ie) ∧
    (∀ c w, i = .setTarget c w → s.cfg.InRange w ∧ ∃ k : Channel, k.val = c ∧ t.target = s.target.set k w) ∧
    ((∀ c w, i ≠ .setTarget c w) → t.target = s.target)) ∧
  (∀ s t : State, stepForeground s = .next t →
    t.cmp = s.cmp ∧ t.pulse = s.pulse ∧
    (s.HostAt .bootSched → t.out = Vector.replicate 4 .inactive ∧ t.phase = .gap ∧ t.armed = true ∧ t.tick = 0) ∧
    (¬ s.HostAt .bootSched → t.out = s.out ∧ t.phase = s.phase ∧ t.armed = s.armed) ∧
    (s.HostAt .cycleClear → t.tick = 0) ∧ (¬ s.HostAt .bootSched → ¬ s.HostAt .cycleClear → t.tick = s.tick) ∧
    (s.HostAt .waitEnable → t.ie = true) ∧ (¬ s.HostAt .waitEnable → t.ie = s.ie) ∧
    (∀ k, s.HostAt (.cycleStore k) → s.cfg.InRange s.widths[k] ∧ t.target = s.target.set k s.widths[k]) ∧
    ((∀ k, ¬ s.HostAt (.cycleStore k)) → t.target = s.target)) ∧
  (∀ (s : State) (a : Ack) (v : Byte),
    (complete a v s).cmp = s.cmp ∧ (complete a v s).pulse = s.pulse ∧ (complete a v s).out = s.out ∧
    (complete a v s).phase = s.phase ∧ (complete a v s).armed = s.armed ∧ (complete a v s).tick = s.tick ∧
    (complete a v s).ie = s.ie ∧ (complete a v s).target = s.target)

/-! ### The whole machine -/

/-- R6: no parameter changes after reset. -/
def Obligations.ConfigurationNeverChanges : Prop :=
  ∀ s t : State, step s = .next t → t.cfg = s.cfg

/-- 10_state.md section 11 and 70_reset_and_hazards.md section 1: the state after power-on, field by field, for the values the
spec's table gives (most are the spec's own choice D9, D11); the host starts at BOOT. That no sequence runs is the model's reading of
a field the table calls not meaningful (log 14). -/
def Obligations.ResetState : Prop :=
  State.reset.cfg.Ok ∧ State.reset.out = Vector.replicate 4 .inactive ∧ State.reset.armed = false ∧ State.reset.ie = false ∧
  State.reset.phase = .gap ∧ State.reset.tick = 0 ∧ State.reset.target = State.reset.cfg.center ∧
  State.reset.busOpen = false ∧ State.reset.pending = none ∧ State.reset.seq = none ∧ State.reset.wire = [] ∧
  State.reset.pulse = [] ∧ State.reset.loop = .waitForStart ∧ State.reset.pos = .ready .boot

/-- The invariant holds after power-on. -/
def Obligations.ResetMeetsTheInvariant : Prop := State.reset.Inv

/-- Every step keeps the invariant: targets in range, outputs those of the phase and so never two active, TICK at its width, inert
until enabled, every emitted interval legal and in the fixed order, every running sequence where its list says
(10_state.md sections 2 and 4, 42_pulse_scheduler.md sections 2 to 4, 41_sensor_client.md section 1). -/
def Obligations.StepKeepsTheInvariant : Prop :=
  ∀ s t : State, s.Inv → step s = .next t → t.Inv

/-! ### The reference host -/

/-- R211: CLAMP(v) for every integer v, returned and nothing else changed. -/
def Obligations.ClampResult : Prop :=
  ∀ (s : State) (v : Int), s.atBoundary = true →
    ∃ w : Nat, exec (.clamp v) s = .next { s with ret := .width w } ∧
      (w : Int) = (if v < s.cfg.wMin then (s.cfg.wMin : Int) else if v > s.cfg.wMax then s.cfg.wMax else v)

/-- 43_reference_host.md section 2, the laws of CLAMP: range, idempotence, identity on the range, monotonicity. -/
def Obligations.ClampLaws : Prop :=
  ∀ c : Config, c.Ok → ∀ u v : Int,
    c.InRange (clampWidth c v) ∧ clampWidth c (clampWidth c v) = clampWidth c v ∧
    ((c.wMin : Int) ≤ v → v ≤ c.wMax → (clampWidth c v : Int) = v) ∧
    (u ≤ v → clampWidth c u ≤ clampWidth c v)

/-- SCALE returns half the signed difference and changes nothing else: no wrap, in -127..127, zero at the zero point
(43_reference_host.md section 2). Halving an odd difference toward zero, and so the odd symmetry, is the spec's own choice
D17. -/
def Obligations.ScaleResult : Prop :=
  ∀ (s : State) (raw zero : Byte), s.atBoundary = true →
    ∃ d : Int, exec (.scale raw zero) s = .next { s with ret := .displacement d } ∧
      d = ((raw.toNat : Int) - zero.toNat).tdiv 2 ∧ -127 ≤ d ∧ d ≤ 127 ∧
      exec (.scale zero raw) s = .next { s with ret := .displacement (-d) } ∧
      exec (.scale zero zero) s = .next { s with ret := .displacement 0 }

/-- The deadzone (43_reference_host.md section 2) is the open square -9..9 × -9..9 of scaled displacements, and exceeding it is the
complement; under the spec's own rounding toward zero (D17) that is a raw difference of -19..19 on both axes. -/
def Obligations.DeadzoneIsTheOpenSquare : Prop :=
  ∀ l : Literals, l = {} →
    (∀ dx dy : Int, inDeadzone l dx dy = true ↔ (-9 ≤ dx ∧ dx ≤ 9) ∧ (-9 ≤ dy ∧ dy ≤ 9)) ∧
    (∀ dx dy : Int, inDeadzone l dx dy = false ↔ 10 ≤ |dx| ∨ 10 ≤ |dy|) ∧
    (∀ x x0 y y0 : Byte, inDeadzone l (scaleStick x x0) (scaleStick y y0) = true ↔
      |(x.toNat : Int) - x0.toNat| ≤ 19 ∧ |(y.toNat : Int) - y0.toNat| ≤ 19)

/-- MODE returns Rotate, Translate or Neutral as 43_reference_host.md section 2 says and changes nothing else; Neutral with both
buttons pressed is the spec's own choice D20. -/
def Obligations.ModeResult : Prop :=
  ∀ (s : State) (btn : Code2) (dx dy : Int), s.cfg.Ok → s.atBoundary = true →
    ∃ m : Mode, exec (.mode btn dx dy) s = .next { s with ret := .mode m } ∧
      (m = .rotate ↔ btn = s.cfg.btn.z ∧ (10 ≤ |dx| ∨ 10 ≤ |dy|)) ∧
      (m = .translate ↔ (btn = s.cfg.btn.none ∨ btn = s.cfg.btn.c) ∧ (10 ≤ |dx| ∨ 10 ≤ |dy|)) ∧
      (btn = s.cfg.btn.both → m = .neutral)

/-- MAP returns the four widths of 43_reference_host.md section 2 and changes nothing else, each direction coefficient being +1 or -1; the
centres for Neutral outside the deadzone are the spec's own choice D19. -/
def Obligations.MapResult : Prop :=
  (signOf .plus = 1 ∧ signOf .minus = -1) ∧
  ∀ (s : State) (dx dy : Int) (m : Mode), s.cfg.Ok → s.atBoundary = true →
    ∃ w : Vector Nat 4, exec (.map dx dy m) s = .next { s with ret := .widths w } ∧
      ∀ i : Channel,
        (|dx| < 10 → |dy| < 10 → w[i] = s.cfg.center[i]) ∧
        (10 ≤ |dx| ∨ 10 ≤ |dy| →
          (m = .translate → w[i] = clampWidth s.cfg (signOf s.cfg.fwd[i] * dy + signOf s.cfg.str[i] * dx + s.cfg.center[i])) ∧
          (m = .rotate → w[i] = clampWidth s.cfg (signOf s.cfg.rot[i] * dx + s.cfg.center[i])) ∧
          (m = .neutral → w[i] = s.cfg.center[i]))

/-- 43_reference_host.md section 2, the laws of MAP: every result in range; independent of dy in Rotate; in the pure-forward and
pure-strafe cases, where nothing is clamped, all four offsets from the centre have the same magnitude. -/
def Obligations.MapLaws : Prop :=
  ∀ c : Config, c.Ok →
    (∀ dx dy m (i : Channel), c.InRange (mapWidth c dx dy m i)) ∧
    (∀ dx dy dy' (i : Channel), inDeadzone c.lit dx dy = false → inDeadzone c.lit dx dy' = false →
      mapWidth c dx dy .rotate i = mapWidth c dx dy' .rotate i) ∧
    (∀ d : Int, 10 ≤ |d| → (∀ i : Channel, (c.wMin : Int) ≤ c.center[i] - |d| ∧ (c.center[i] : Int) + |d| ≤ c.wMax) →
      ∀ i : Channel, |(mapWidth c 0 d .translate i : Int) - c.center[i]| = |d| ∧
        |(mapWidth c d 0 .translate i : Int) - c.center[i]| = |d|)

/-- BOOT from between operations with IE = 0 begins with BUS_INIT; then, for every draw, the foreground enters SENSOR_INIT, runs it and
does SCHED_INIT: WIRE gains the two initialisation frames, the timer is armed, outputs inactive, LOOP is WaitForStart and
WAIT_START comes next (43_reference_host.md section 3; the order is the spec's own choice D24). -/
def Obligations.BootInitialisesTheBlock : Prop :=
  ∀ (s : State) (d : Nat → Ack × Byte), s.cfg.Ok → s.atBoundary = true → s.ie = false →
    exec .boot s = .next { s with busOpen := false, pending := none, pos := .bootSensor } ∧
    runTurns ([.foreground] ++ driveSequence s.cfg d .sensorInit ++ [.foreground, .foreground])
        { s with busOpen := false, pending := none, pos := .bootSensor } =
      .next { s with
        busOpen := false, pending := none, armed := true, out := Vector.replicate 4 .inactive, phase := .gap, tick := 0
        loop := .waitForStart, pos := .ready .waitStart
        wire := s.wire ++
          [.start, .sent 0xA4 (d 1).1, .sent 0xF0 (d 2).1, .sent 0x55 (d 3).1, .stop, .delay,
           .start, .sent 0xA4 (d 7).1, .sent 0xFB (d 8).1, .sent 0x00 (d 9).1, .stop] }

/-- WAIT_START requests a sample; each sample read is tested: the one code C, whatever its az, ends the wait, and in a step each CAL takes
that sample's x and y, SCHED_ENABLE sets IE with the timer armed, LOOP becomes Running, CYCLE next; any other code, "both" included,
requests another sample (43_reference_host.md section 3; no sentinel test and no pacing is the spec's own choice D21; that a test and
the jump it decides are one step is log 24). -/
def Obligations.WaitStartEndsOnC : Prop :=
  (∀ s : State, s.atBoundary = true → s.busOpen = false →
    exec .waitStart s = .next { s with seq := some { name := .requestSample, pos := 0, got := [] }, pos := .waitTest }) ∧
  (∀ s : State, s.HostAt .waitTest → s.busOpen = false →
    (s.sample.btn = s.cfg.btn.c → s.armed = true →
      runTurns [.foreground, .foreground] s =
        .next { s with calX := s.sample.x, calY := s.sample.y, pos := .waitEnable } ∧
      runTurns [.foreground, .foreground, .foreground] s =
        .next { s with calX := s.sample.x, calY := s.sample.y, ie := true, pos := .waitLoop } ∧
      runTurns [.foreground, .foreground, .foreground, .foreground] s =
        .next { s with calX := s.sample.x, calY := s.sample.y, ie := true, loop := .running, pos := .ready .cycle }) ∧
    (s.sample.btn ≠ s.cfg.btn.c → stepForeground s =
      .next { s with seq := some { name := .requestSample, pos := 0, got := [] } }))

/-- R226: a sample whose az is 0xFF is discarded: the next foreground step requests another sample and changes nothing else, and
until that sample has been read no foreground step changes CAL, TARGET or TICK. -/
def Obligations.CorruptSampleIsDiscarded : Prop :=
  (∀ s : State, s.cfg.Ok → s.pending = none → s.seq = none → s.busOpen = false → s.pos = .cycleJudge → s.sample.az = 0xFF →
    stepForeground s = .next { s with seq := some { name := .requestSample, pos := 0, got := [] } }) ∧
  (∀ s t : State, s.pos = .cycleJudge → s.seq ≠ none → stepForeground s = .next t →
    t.pos = .cycleJudge ∧ t.calX = s.calX ∧ t.calY = s.calY ∧ t.target = s.target ∧ t.tick = s.tick)

/-- In a cycle that is not discarded, the one code C re-zeroes CAL to the raw reading, before the displacement is taken, so that
dx = dy = 0, the mode is Neutral and the four centres are to be stored; any other code leaves CAL as it was, and dx, dy, mode and the
widths follow from it, each in a step of its own (43_reference_host.md sections 2 and 3; that a test and the jump it decides are one
step is log 24). -/
def Obligations.RezeroOnCOnly : Prop :=
  ∀ s : State, s.cfg.Ok → s.HostAt .cycleJudge → s.sample.az ≠ 0xFF →
    (s.sample.btn = s.cfg.btn.c →
      runTurns [.foreground, .foreground, .foreground] s =
        .next { s with calX := s.sample.x, calY := s.sample.y, pos := .cycleScaleX } ∧
      runTurns (List.replicate 7 .foreground) s = .next { s with
        calX := s.sample.x, calY := s.sample.y, dx := 0, dy := 0, mode := .neutral
        widths := s.cfg.center, ret := .widths s.cfg.center, pos := .cycleStore 0 }) ∧
    (s.sample.btn ≠ s.cfg.btn.c → ∀ dx dy m w,
      dx = scaleStick s.sample.x s.calX → dy = scaleStick s.sample.y s.calY → m = modeOf s.cfg s.sample.btn dx dy →
      w = mapWidths s.cfg dx dy m →
      runTurns [.foreground, .foreground] s = .next { s with pos := .cycleScaleX } ∧
      runTurns (List.replicate 3 .foreground) s =
        .next { s with dx := dx, ret := .displacement dx, pos := .cycleScaleY } ∧
      runTurns (List.replicate 4 .foreground) s =
        .next { s with dx := dx, dy := dy, ret := .displacement dy, pos := .cycleMode } ∧
      runTurns (List.replicate 5 .foreground) s =
        .next { s with dx := dx, dy := dy, mode := m, ret := .mode m, pos := .cycleMap } ∧
      runTurns (List.replicate 6 .foreground) s =
        .next { s with dx := dx, dy := dy, mode := m, widths := w, ret := .widths w, pos := .cycleStore 0 })

/-- The four widths are stored by four foreground steps in ascending channel order (43_reference_host.md section 3; the order is the
spec's own choice D23), and the pacing wait comes next. -/
def Obligations.FourStoresInChannelOrder : Prop :=
  ∀ s : State, s.pending = none → s.seq = none → s.pos = .cycleStore 0 → (∀ i : Channel, s.cfg.InRange s.widths[i]) →
    runTurns [.foreground] s = .next { s with target := s.target.set 0 s.widths[0], pos := .cycleStore 1 } ∧
    runTurns [.foreground, .foreground] s =
      .next { s with target := (s.target.set 0 s.widths[0]).set 1 s.widths[1], pos := .cycleStore 2 } ∧
    runTurns [.foreground, .foreground, .foreground, .foreground] s = .next { s with target := s.widths, pos := .cyclePace }

/-- Pacing (43_reference_host.md section 3): each poll returns TICK; below 20 it polls again, at 20 or more (the spec's own choice D18)
CLR_TICK follows and CYCLE comes next. -/
def Obligations.PacingWaitsForTwentyTicks : Prop :=
  ∀ s : State, s.cfg.Ok → s.pending = none → s.seq = none → s.pos = .cyclePace →
    (s.tick < 20 → stepForeground s = .next { s with ret := .tick s.tick }) ∧
    (20 ≤ s.tick → runTurns [.foreground, .foreground] s =
      .next { s with ret := .tick s.tick, tick := 0, pos := .ready .cycle })

/-- One whole CYCLE (43_reference_host.md section 3): entered between frames, with any six bytes drawn whose az is not 0xFF and TICK
at 20 or more, it reads the sample, re-zeroes on C, scales, picks the mode, maps, stores the four widths, clears TICK, and CYCLE
comes next. How many foreground steps that takes is the model's (log 24): one more where CAL is written. -/
def Obligations.CycleMapsTheSampleToTargets : Prop :=
  ∀ (s : State) (d : Nat → Ack × Byte) (v : Sample), s.cfg.Ok → s.atBoundary = true → s.busOpen = false → 20 ≤ s.tick →
    v = { x := (d 7).2, y := (d 8).2, ax := (d 9).2, ay := (d 10).2, az := (d 11).2, btn := ((d 12).2 &&& 0b11).setWidth 2 } →
    v.az ≠ 0xFF →
    exec .cycle s = .next { s with seq := some { name := .requestSample, pos := 0, got := [] }, pos := .cycleJudge } ∧
    ∃ t, runTurns (driveSequence s.cfg d .requestSample ++
          List.replicate (if v.btn = s.cfg.btn.c then 13 else 12) .foreground)
        { s with seq := some { name := .requestSample, pos := 0, got := [] }, pos := .cycleJudge } = .next t ∧
      t.sample = v ∧
      (v.btn = s.cfg.btn.c → t.calX = v.x ∧ t.calY = v.y) ∧ (v.btn ≠ s.cfg.btn.c → t.calX = s.calX ∧ t.calY = s.calY) ∧
      t.target = mapWidths s.cfg (scaleStick v.x t.calX) (scaleStick v.y t.calY)
        (modeOf s.cfg v.btn (scaleStick v.x t.calX) (scaleStick v.y t.calY)) ∧
      t.tick = 0 ∧ t.ret = .tick s.tick ∧ t.pos = .ready .cycle ∧ t.busOpen = false ∧ t.pending = none ∧ t.seq = none ∧
      t.out = s.out ∧ t.cmp = s.cmp ∧ t.phase = s.phase ∧ t.pulse = s.pulse ∧ t.ie = s.ie ∧ t.armed = s.armed

/-- 20_memory.md section 3, lost ticks: GET_TICK then CLR_TICK is not atomic. With TICK at 20 or more and the scheduler in P3, a
compare-match between the two is cleared away, where one after both is kept. -/
def Obligations.TickBetweenReadAndClearIsLost : Prop :=
  ∀ s : State, s.cfg.Ok → s.pending = none → s.seq = none → s.pos = .cyclePace → s.interruptEnabled = true → s.phase = .p3 →
    20 ≤ s.tick →
    ∃ t u, runTurns [.foreground, .timer, .foreground] s = .next t ∧ t.tick = 0 ∧ t.phase = .gap ∧
      runTurns [.foreground, .foreground, .timer] s = .next u ∧ u.tick = 1 ∧ u.phase = .gap

/-- 70_reset_and_hazards.md section 3, mixed frames: compare-matches between the four stores of a cycle emit widths of two commands in
one frame, each of them legal, from targets and new widths that are in range. -/
def Obligations.FrameCanMixTwoCommands : Prop :=
  ∀ s : State, s.HostAt (.cycleStore 0) → s.interruptEnabled = true → s.phase = .p0 →
    (∀ i : Channel, s.cfg.InRange s.widths[i]) → (∀ i : Channel, s.cfg.InRange s.target[i]) →
    ∃ t l, runTurns [.foreground, .foreground, .timer, .timer, .foreground, .foreground, .timer] s = .next t ∧
      l = [{ phase := .p1, count := s.widths[1] }, { phase := .p2, count := s.target[2] }, { phase := .p3, count := s.widths[3] }] ∧
      t.pulse = s.pulse ++ l ∧ (∀ p ∈ l, Pulse.Legal s.cfg p) ∧ t.target = s.widths

/-! ### Patterns on the wire -/

/-- WIRE.BYTE carries one transfer: the one in flight, or the very next one of the sequence that runs, which it then issues. Of a byte
sent, when its eight data slots are that byte, the ninth slot is the target's answer; of a byte read, when the ninth slot is the
controller's answer, the eight data slots are the target's byte. The result goes to the host, or to the sequence, which keeps the bytes
read. A pattern that the transfer does not carry is refused, START and STOP in flight included (30_encoding.md section 1). Which level
of the ninth slot means ACK is the open `ackLevel` (log 8). That a pattern issues the sequence's transfer, and is refused with nothing
in flight and no sequence running, is the model's choice (log 6). -/
def Obligations.WireByteCompletesTheTransfer : Prop :=
  ∀ (s : State) (b : Byte) (bit : Bool) (a : Ack), a = (if bit = s.cfg.ackLevel then .ack else .nak) →
    (∀ p, s.pending = some p → p ≠ .write b → p ≠ .read (decide (bit = s.cfg.ackLevel)) →
      exec (.wireByte b bit) s = .refused .otherTransfer) ∧
    (s.seq = none →
      (s.pending = some (.write b) → exec (.wireByte b bit) s =
        .next { s with pending := none, wire := s.wire ++ [.sent b a], ret := .ack a }) ∧
      (s.pending = some (.read (decide (bit = s.cfg.ackLevel))) → exec (.wireByte b bit) s =
        .next { s with pending := none, wire := s.wire ++ [.received b a], ret := .byte b }) ∧
      (s.pending = none → exec (.wireByte b bit) s = .refused .otherTransfer)) ∧
    (∀ run, s.seq = some run →
      (s.pending = some (.write b) → exec (.wireByte b bit) s =
        .next { s with pending := none, wire := s.wire ++ [.sent b a] }) ∧
      (s.pending = some (.read (decide (bit = s.cfg.ackLevel))) → exec (.wireByte b bit) s =
        .next { s with pending := none, wire := s.wire ++ [.received b a], seq := some { run with got := run.got ++ [b] } }) ∧
      (s.pending = none → run.next s.cfg.lit = some (.prim (.write b)) →
        (s.busOpen = true → exec (.wireByte b bit) s =
          .next { s with wire := s.wire ++ [.sent b a], seq := some { run with pos := run.pos + 1 } }) ∧
        (s.busOpen = false → exec (.wireByte b bit) s = .refused .busOrder)) ∧
      (s.pending = none → run.next s.cfg.lit = some (.prim (.read (decide (bit = s.cfg.ackLevel)))) →
        (s.busOpen = true → exec (.wireByte b bit) s =
          .next { s with
            wire := s.wire ++ [.received b a]
            seq := some { run with pos := run.pos + 1, got := run.got ++ [b] } }) ∧
        (s.busOpen = false → exec (.wireByte b bit) s = .refused .busOrder)) ∧
      (s.pending = none → run.next s.cfg.lit ≠ some (.prim (.write b)) →
        run.next s.cfg.lit ≠ some (.prim (.read (decide (bit = s.cfg.ackLevel)))) →
        exec (.wireByte b bit) s = .refused .otherTransfer))

/-- WIRE.ADDR_W, WIRE.ADDR_R and WIRE.TRIG in an open frame of a host between operations: the one byte A4, A5 or 00 goes over the
wire, answered by an acknowledge bit of which nothing is known (30_encoding.md section 1; log 6, log 7). -/
def Obligations.WireSingleBytesGoOver : Prop :=
  ∀ s : State, s.cfg.Ok → s.atBoundary = true → s.busOpen = true →
    ∀ i b, (i, b) ∈ [(Instr.wireAddrW, (0xA4 : Byte)), (.wireAddrR, 0xA5), (.wireTrig, 0x00)] →
      ∃ a : Ack, exec i s = .next { s with wire := s.wire ++ [.sent b a], ret := .ack a, drawNo := s.drawNo + 1 }

/-- WIRE.INIT1 and WIRE.INIT2 in an open frame of a host between operations: the two bytes F0 55 or FB 00 go over the wire in that
order, each with its acknowledge bit (30_encoding.md section 1; log 6, log 7). -/
def Obligations.WireInitPayloadsGoOver : Prop :=
  ∀ s : State, s.cfg.Ok → s.atBoundary = true → s.busOpen = true →
    ∀ i b c, (i, b, c) ∈ [(Instr.wireInit1, (0xF0 : Byte), (0x55 : Byte)), (.wireInit2, 0xFB, 0x00)] →
      ∃ a a' : Ack, exec i s =
        .next { s with wire := s.wire ++ [.sent b a, .sent c a'], ret := .ack a', drawNo := s.drawNo + 2 }

/-- WIRE.BUTTONS and WIRE.SAMPLE in an open frame of a host between operations: the target's bytes go over the wire, ACK after the
first five of a sample and NAK after the last, whose byte is the six discarded bits over the button code (30_encoding.md
section 1; log 6). -/
def Obligations.WireSampleGoesOver : Prop :=
  ∀ (s : State) (x y ax ay az : Byte) (r : BitVec 6) (btn : Code2), s.atBoundary = true → s.busOpen = true →
    exec (.wireButtons r btn) s = .next { s with wire := s.wire ++ [.received (r ++ btn) .nak], ret := .byte (r ++ btn) } ∧
    exec (.wireSample x y ax ay az r btn) s = .next { s with
      wire := s.wire ++ [.received x .ack, .received y .ack, .received ax .ack, .received ay .ack, .received az .ack,
        .received (r ++ btn) .nak]
      ret := .byte (r ++ btn) }

/-- 30_encoding.md sections 1 and 2: inside READ_SAMPLE, once its address byte has completed, the pattern WIRE.SAMPLE x y ax ay az r b
runs the six reads, and after its STOP the foreground returns SAMPLE with exactly those fields: the six high bits `r` reach no
state but WIRE. That the pattern issues and completes the six reads of the running sequence is the model's choice (log 6). -/
def Obligations.WireSampleBecomesSample : Prop :=
  ∀ (s : State) (x y ax ay az : Byte) (r : BitVec 6) (btn : Code2) (a : Ack) (v : Byte), s.cfg.Ok →
    s.pending = none → s.busOpen = true → s.seq = some { name := .readSample, pos := 2, got := [] } →
    ∃ t, exec (.wireSample x y ax ay az r btn) s = .next t ∧
      runTurns [.foreground, .shiftComplete a v, .foreground] t = .next { s with
        seq := none
        busOpen := false
        sample := { x := x, y := y, ax := ax, ay := ay, az := az, btn := btn }
        ret := .sample { x := x, y := y, ax := ax, ay := ay, az := az, btn := btn }
        wire := s.wire ++ [.received x .ack, .received y .ack, .received ax .ack, .received ay .ack, .received az .ack,
          .received (r ++ btn) .nak, .stop] }
end

