-- ==== Sys2Proof/Laws/Decode.lean ====
section
/-!
SUPPORT. Small lemmas of the decoder and encoder: bytes and bits in bus order, operands, operation numbers.
-/

namespace Sys2Proof

/-! ### Bits on the wire -/

theorem byteOfBits_bits (b : Byte) :
    byteOfBits (b.getLsbD 7) (b.getLsbD 6) (b.getLsbD 5) (b.getLsbD 4) (b.getLsbD 3) (b.getLsbD 2) (b.getLsbD 1)
      (b.getLsbD 0) = b := by
  revert b; decide

theorem byteBits_byteOfBits (b7 b6 b5 b4 b3 b2 b1 b0 : Bool) :
    byteBits (byteOfBits b7 b6 b5 b4 b3 b2 b1 b0) = [b7, b6, b5, b4, b3, b2, b1, b0] := by
  revert b7 b6 b5 b4 b3 b2 b1 b0; decide

@[simp] theorem byteBits_length (b : Byte) : (byteBits b).length = 8 := rfl

/-- The first byte of a run of bits is the byte whose bits stand first. -/
@[simp] theorem takeByte_byteBits (b : Byte) (rest : List Bool) : takeByte (byteBits b ++ rest) = some (b, rest) := by
  unfold byteBits
  simp only [List.cons_append, List.nil_append, takeByte, byteOfBits_bits]

/-- A run of bits that begins with a byte is that byte's bits and the rest. -/
theorem takeByte_eq_some {bits rest : List Bool} {b : Byte} (h : takeByte bits = some (b, rest)) :
    bits = byteBits b ++ rest := by
  unfold takeByte at h
  split at h
  · cases h
    rw [byteBits_byteOfBits]
    rfl
  · cases h

theorem takeBytes_flatMap (p : List Byte) : takeBytes p.length (p.flatMap byteBits) = some p := by
  induction p with
  | nil => rfl
  | cons b p ih => simp [takeBytes, List.flatMap_cons, ih]

theorem takeBytes_eq_some {n : Nat} {bits : List Bool} {p : List Byte} (h : takeBytes n bits = some p) :
    bits = p.flatMap byteBits := by
  induction n generalizing bits p with
  | zero => cases bits <;> simp_all [takeBytes]
  | succ n ih =>
    simp only [takeBytes, Option.bind_eq_some_iff, Option.map_eq_some_iff] at h
    obtain ⟨⟨b, rest⟩, hb, q, hq, rfl⟩ := h
    simp only at hq
    rw [takeByte_eq_some hb, ih hq, List.flatMap_cons]

@[simp] theorem highSix_buttonByte (r : BitVec 6) (b : Code2) : highSix (buttonByte r b) = r := by
  revert r b; decide

@[simp] theorem lowTwo_buttonByte (r : BitVec 6) (b : Code2) : lowTwo (buttonByte r b) = b := by
  revert r b; decide

@[simp] theorem buttonByte_highSix_lowTwo (v : Byte) : buttonByte (highSix v) (lowTwo v) = v := by
  revert v; decide

/-! ### Operation numbers and operands -/

@[simp] theorem ofNumber_number (o : Op) : Op.ofNumber o.number = some o := by cases o <;> rfl

theorem number_ofNumber {n : Byte} {o : Op} (h : Op.ofNumber n = some o) : o.number = n := by
  simpa using List.find?_some h

@[simp] theorem bitsOperand_toNat {n : Nat} (b : BitVec n) : bitsOperand n (b.toNat : Int) = .ok b := by
  have h : ((b.toNat : Int)) < 2 ^ n := by exact_mod_cast b.isLt
  simp [bitsOperand, h]

theorem bitsOperand_eq_ok {n : Nat} {z : Int} {b : BitVec n} (h : bitsOperand n z = .ok b) : (b.toNat : Int) = z := by
  unfold bitsOperand at h
  split at h
  · rename_i hz
    cases h
    have h1 : z.toNat < 2 ^ n := by
      have : ((z.toNat : Int)) < ((2 ^ n : Nat) : Int) := by
        rw [Int.toNat_of_nonneg hz.1]; exact_mod_cast hz.2
      exact_mod_cast this
    rw [BitVec.toNat_ofNat, Nat.mod_eq_of_lt h1, Int.toNat_of_nonneg hz.1]
  · cases h

@[simp] theorem flagOperand_toNat (k : Bool) : flagOperand (k.toNat : Int) = .ok k := by cases k <;> rfl

theorem flagOperand_eq_ok {z : Int} {k : Bool} (h : flagOperand z = .ok k) : (k.toNat : Int) = z := by
  unfold flagOperand at h
  split at h
  · cases h; simp_all
  · split at h
    · cases h; simp_all
    · cases h

theorem channelOperand_of_lt {i : Nat} (h : i < numChannels) : channelOperand (i : Int) = .ok i := by
  simpa [channelOperand] using h

theorem channelOperand_eq_ok {z : Int} {i : Nat} (h : channelOperand z = .ok i) : (i : Int) = z ∧ i < numChannels := by
  unfold channelOperand at h
  split at h
  · cases h; omega
  · cases h

@[simp] theorem widthOperand_natCast (w : Nat) : widthOperand (w : Int) = .ok w := by simp [widthOperand]

theorem widthOperand_eq_ok {z : Int} {w : Nat} (h : widthOperand z = .ok w) : (w : Int) = z := by
  unfold widthOperand at h
  split at h
  · cases h; omega
  · cases h

@[simp] theorem modeOperand_number (m : Mode) : modeOperand m.number = .ok m := by cases m <;> rfl

theorem modeOperand_eq_ok {z : Int} {m : Mode} (h : modeOperand z = .ok m) : m.number = z := by
  unfold modeOperand at h
  split at h
  · cases h; simp_all [Mode.number]
  · split at h
    · cases h; simp_all [Mode.number]
    · split at h
      · cases h; simp_all [Mode.number]
      · cases h

end Sys2Proof
end

