-- ==== Sys2Proof/Laws/State.lean ====
section
/-!
SUPPORT. For each named write of State, one lemma per field: what the field is after the write.
-/

namespace Sys2Proof.Machine.State

variable (s : State)

/-! ### setPending -/

@[simp] theorem setPending_cfg (p : Option Prim) : (s.setPending p).cfg = s.cfg := rfl
@[simp] theorem setPending_target (p : Option Prim) : (s.setPending p).target = s.target := rfl
@[simp] theorem setPending_sample (p : Option Prim) : (s.setPending p).sample = s.sample := rfl
@[simp] theorem setPending_phase (p : Option Prim) : (s.setPending p).phase = s.phase := rfl
@[simp] theorem setPending_seq (p : Option Prim) : (s.setPending p).seq = s.seq := rfl
@[simp] theorem setPending_out (p : Option Prim) : (s.setPending p).out = s.out := rfl
@[simp] theorem setPending_ie (p : Option Prim) : (s.setPending p).ie = s.ie := rfl
@[simp] theorem setPending_armed (p : Option Prim) : (s.setPending p).armed = s.armed := rfl
@[simp] theorem setPending_busOpen (p : Option Prim) : (s.setPending p).busOpen = s.busOpen := rfl
@[simp] theorem setPending_cmp (p : Option Prim) : (s.setPending p).cmp = s.cmp := rfl
@[simp] theorem setPending_tick (p : Option Prim) : (s.setPending p).tick = s.tick := rfl
@[simp] theorem setPending_pending (p : Option Prim) : (s.setPending p).pending = p := rfl
@[simp] theorem setPending_wire (p : Option Prim) : (s.setPending p).wire = s.wire := rfl
@[simp] theorem setPending_pulse (p : Option Prim) : (s.setPending p).pulse = s.pulse := rfl
@[simp] theorem setPending_calX (p : Option Prim) : (s.setPending p).calX = s.calX := rfl
@[simp] theorem setPending_calY (p : Option Prim) : (s.setPending p).calY = s.calY := rfl
@[simp] theorem setPending_loop (p : Option Prim) : (s.setPending p).loop = s.loop := rfl
@[simp] theorem setPending_pos (p : Option Prim) : (s.setPending p).pos = s.pos := rfl
@[simp] theorem setPending_dx (p : Option Prim) : (s.setPending p).dx = s.dx := rfl
@[simp] theorem setPending_dy (p : Option Prim) : (s.setPending p).dy = s.dy := rfl
@[simp] theorem setPending_mode (p : Option Prim) : (s.setPending p).mode = s.mode := rfl
@[simp] theorem setPending_widths (p : Option Prim) : (s.setPending p).widths = s.widths := rfl
@[simp] theorem setPending_ret (p : Option Prim) : (s.setPending p).ret = s.ret := rfl
@[simp] theorem setPending_script (p : Option Prim) : (s.setPending p).script = s.script := rfl
@[simp] theorem setPending_turnNo (p : Option Prim) : (s.setPending p).turnNo = s.turnNo := rfl
@[simp] theorem setPending_drawNo (p : Option Prim) : (s.setPending p).drawNo = s.drawNo := rfl

/-! ### setBusOpen -/

@[simp] theorem setBusOpen_cfg (b : Bool) : (s.setBusOpen b).cfg = s.cfg := rfl
@[simp] theorem setBusOpen_target (b : Bool) : (s.setBusOpen b).target = s.target := rfl
@[simp] theorem setBusOpen_sample (b : Bool) : (s.setBusOpen b).sample = s.sample := rfl
@[simp] theorem setBusOpen_phase (b : Bool) : (s.setBusOpen b).phase = s.phase := rfl
@[simp] theorem setBusOpen_seq (b : Bool) : (s.setBusOpen b).seq = s.seq := rfl
@[simp] theorem setBusOpen_out (b : Bool) : (s.setBusOpen b).out = s.out := rfl
@[simp] theorem setBusOpen_ie (b : Bool) : (s.setBusOpen b).ie = s.ie := rfl
@[simp] theorem setBusOpen_armed (b : Bool) : (s.setBusOpen b).armed = s.armed := rfl
@[simp] theorem setBusOpen_busOpen (b : Bool) : (s.setBusOpen b).busOpen = b := rfl
@[simp] theorem setBusOpen_cmp (b : Bool) : (s.setBusOpen b).cmp = s.cmp := rfl
@[simp] theorem setBusOpen_tick (b : Bool) : (s.setBusOpen b).tick = s.tick := rfl
@[simp] theorem setBusOpen_pending (b : Bool) : (s.setBusOpen b).pending = s.pending := rfl
@[simp] theorem setBusOpen_wire (b : Bool) : (s.setBusOpen b).wire = s.wire := rfl
@[simp] theorem setBusOpen_pulse (b : Bool) : (s.setBusOpen b).pulse = s.pulse := rfl
@[simp] theorem setBusOpen_calX (b : Bool) : (s.setBusOpen b).calX = s.calX := rfl
@[simp] theorem setBusOpen_calY (b : Bool) : (s.setBusOpen b).calY = s.calY := rfl
@[simp] theorem setBusOpen_loop (b : Bool) : (s.setBusOpen b).loop = s.loop := rfl
@[simp] theorem setBusOpen_pos (b : Bool) : (s.setBusOpen b).pos = s.pos := rfl
@[simp] theorem setBusOpen_dx (b : Bool) : (s.setBusOpen b).dx = s.dx := rfl
@[simp] theorem setBusOpen_dy (b : Bool) : (s.setBusOpen b).dy = s.dy := rfl
@[simp] theorem setBusOpen_mode (b : Bool) : (s.setBusOpen b).mode = s.mode := rfl
@[simp] theorem setBusOpen_widths (b : Bool) : (s.setBusOpen b).widths = s.widths := rfl
@[simp] theorem setBusOpen_ret (b : Bool) : (s.setBusOpen b).ret = s.ret := rfl
@[simp] theorem setBusOpen_script (b : Bool) : (s.setBusOpen b).script = s.script := rfl
@[simp] theorem setBusOpen_turnNo (b : Bool) : (s.setBusOpen b).turnNo = s.turnNo := rfl
@[simp] theorem setBusOpen_drawNo (b : Bool) : (s.setBusOpen b).drawNo = s.drawNo := rfl

/-! ### logWire -/

@[simp] theorem logWire_cfg (x : Symbol) : (s.logWire x).cfg = s.cfg := rfl
@[simp] theorem logWire_target (x : Symbol) : (s.logWire x).target = s.target := rfl
@[simp] theorem logWire_sample (x : Symbol) : (s.logWire x).sample = s.sample := rfl
@[simp] theorem logWire_phase (x : Symbol) : (s.logWire x).phase = s.phase := rfl
@[simp] theorem logWire_seq (x : Symbol) : (s.logWire x).seq = s.seq := rfl
@[simp] theorem logWire_out (x : Symbol) : (s.logWire x).out = s.out := rfl
@[simp] theorem logWire_ie (x : Symbol) : (s.logWire x).ie = s.ie := rfl
@[simp] theorem logWire_armed (x : Symbol) : (s.logWire x).armed = s.armed := rfl
@[simp] theorem logWire_busOpen (x : Symbol) : (s.logWire x).busOpen = s.busOpen := rfl
@[simp] theorem logWire_cmp (x : Symbol) : (s.logWire x).cmp = s.cmp := rfl
@[simp] theorem logWire_tick (x : Symbol) : (s.logWire x).tick = s.tick := rfl
@[simp] theorem logWire_pending (x : Symbol) : (s.logWire x).pending = s.pending := rfl
@[simp] theorem logWire_wire (x : Symbol) : (s.logWire x).wire = s.wire ++ [x] := rfl
@[simp] theorem logWire_pulse (x : Symbol) : (s.logWire x).pulse = s.pulse := rfl
@[simp] theorem logWire_calX (x : Symbol) : (s.logWire x).calX = s.calX := rfl
@[simp] theorem logWire_calY (x : Symbol) : (s.logWire x).calY = s.calY := rfl
@[simp] theorem logWire_loop (x : Symbol) : (s.logWire x).loop = s.loop := rfl
@[simp] theorem logWire_pos (x : Symbol) : (s.logWire x).pos = s.pos := rfl
@[simp] theorem logWire_dx (x : Symbol) : (s.logWire x).dx = s.dx := rfl
@[simp] theorem logWire_dy (x : Symbol) : (s.logWire x).dy = s.dy := rfl
@[simp] theorem logWire_mode (x : Symbol) : (s.logWire x).mode = s.mode := rfl
@[simp] theorem logWire_widths (x : Symbol) : (s.logWire x).widths = s.widths := rfl
@[simp] theorem logWire_ret (x : Symbol) : (s.logWire x).ret = s.ret := rfl
@[simp] theorem logWire_script (x : Symbol) : (s.logWire x).script = s.script := rfl
@[simp] theorem logWire_turnNo (x : Symbol) : (s.logWire x).turnNo = s.turnNo := rfl
@[simp] theorem logWire_drawNo (x : Symbol) : (s.logWire x).drawNo = s.drawNo := rfl

/-! ### setSeq -/

@[simp] theorem setSeq_cfg (r : Option SeqRun) : (s.setSeq r).cfg = s.cfg := rfl
@[simp] theorem setSeq_target (r : Option SeqRun) : (s.setSeq r).target = s.target := rfl
@[simp] theorem setSeq_sample (r : Option SeqRun) : (s.setSeq r).sample = s.sample := rfl
@[simp] theorem setSeq_phase (r : Option SeqRun) : (s.setSeq r).phase = s.phase := rfl
@[simp] theorem setSeq_seq (r : Option SeqRun) : (s.setSeq r).seq = r := rfl
@[simp] theorem setSeq_out (r : Option SeqRun) : (s.setSeq r).out = s.out := rfl
@[simp] theorem setSeq_ie (r : Option SeqRun) : (s.setSeq r).ie = s.ie := rfl
@[simp] theorem setSeq_armed (r : Option SeqRun) : (s.setSeq r).armed = s.armed := rfl
@[simp] theorem setSeq_busOpen (r : Option SeqRun) : (s.setSeq r).busOpen = s.busOpen := rfl
@[simp] theorem setSeq_cmp (r : Option SeqRun) : (s.setSeq r).cmp = s.cmp := rfl
@[simp] theorem setSeq_tick (r : Option SeqRun) : (s.setSeq r).tick = s.tick := rfl
@[simp] theorem setSeq_pending (r : Option SeqRun) : (s.setSeq r).pending = s.pending := rfl
@[simp] theorem setSeq_wire (r : Option SeqRun) : (s.setSeq r).wire = s.wire := rfl
@[simp] theorem setSeq_pulse (r : Option SeqRun) : (s.setSeq r).pulse = s.pulse := rfl
@[simp] theorem setSeq_calX (r : Option SeqRun) : (s.setSeq r).calX = s.calX := rfl
@[simp] theorem setSeq_calY (r : Option SeqRun) : (s.setSeq r).calY = s.calY := rfl
@[simp] theorem setSeq_loop (r : Option SeqRun) : (s.setSeq r).loop = s.loop := rfl
@[simp] theorem setSeq_pos (r : Option SeqRun) : (s.setSeq r).pos = s.pos := rfl
@[simp] theorem setSeq_dx (r : Option SeqRun) : (s.setSeq r).dx = s.dx := rfl
@[simp] theorem setSeq_dy (r : Option SeqRun) : (s.setSeq r).dy = s.dy := rfl
@[simp] theorem setSeq_mode (r : Option SeqRun) : (s.setSeq r).mode = s.mode := rfl
@[simp] theorem setSeq_widths (r : Option SeqRun) : (s.setSeq r).widths = s.widths := rfl
@[simp] theorem setSeq_ret (r : Option SeqRun) : (s.setSeq r).ret = s.ret := rfl
@[simp] theorem setSeq_script (r : Option SeqRun) : (s.setSeq r).script = s.script := rfl
@[simp] theorem setSeq_turnNo (r : Option SeqRun) : (s.setSeq r).turnNo = s.turnNo := rfl
@[simp] theorem setSeq_drawNo (r : Option SeqRun) : (s.setSeq r).drawNo = s.drawNo := rfl

/-! ### setSample -/

@[simp] theorem setSample_cfg (v : Sample) : (s.setSample v).cfg = s.cfg := rfl
@[simp] theorem setSample_target (v : Sample) : (s.setSample v).target = s.target := rfl
@[simp] theorem setSample_sample (v : Sample) : (s.setSample v).sample = v := rfl
@[simp] theorem setSample_phase (v : Sample) : (s.setSample v).phase = s.phase := rfl
@[simp] theorem setSample_seq (v : Sample) : (s.setSample v).seq = s.seq := rfl
@[simp] theorem setSample_out (v : Sample) : (s.setSample v).out = s.out := rfl
@[simp] theorem setSample_ie (v : Sample) : (s.setSample v).ie = s.ie := rfl
@[simp] theorem setSample_armed (v : Sample) : (s.setSample v).armed = s.armed := rfl
@[simp] theorem setSample_busOpen (v : Sample) : (s.setSample v).busOpen = s.busOpen := rfl
@[simp] theorem setSample_cmp (v : Sample) : (s.setSample v).cmp = s.cmp := rfl
@[simp] theorem setSample_tick (v : Sample) : (s.setSample v).tick = s.tick := rfl
@[simp] theorem setSample_pending (v : Sample) : (s.setSample v).pending = s.pending := rfl
@[simp] theorem setSample_wire (v : Sample) : (s.setSample v).wire = s.wire := rfl
@[simp] theorem setSample_pulse (v : Sample) : (s.setSample v).pulse = s.pulse := rfl
@[simp] theorem setSample_calX (v : Sample) : (s.setSample v).calX = s.calX := rfl
@[simp] theorem setSample_calY (v : Sample) : (s.setSample v).calY = s.calY := rfl
@[simp] theorem setSample_loop (v : Sample) : (s.setSample v).loop = s.loop := rfl
@[simp] theorem setSample_pos (v : Sample) : (s.setSample v).pos = s.pos := rfl
@[simp] theorem setSample_dx (v : Sample) : (s.setSample v).dx = s.dx := rfl
@[simp] theorem setSample_dy (v : Sample) : (s.setSample v).dy = s.dy := rfl
@[simp] theorem setSample_mode (v : Sample) : (s.setSample v).mode = s.mode := rfl
@[simp] theorem setSample_widths (v : Sample) : (s.setSample v).widths = s.widths := rfl
@[simp] theorem setSample_ret (v : Sample) : (s.setSample v).ret = s.ret := rfl
@[simp] theorem setSample_script (v : Sample) : (s.setSample v).script = s.script := rfl
@[simp] theorem setSample_turnNo (v : Sample) : (s.setSample v).turnNo = s.turnNo := rfl
@[simp] theorem setSample_drawNo (v : Sample) : (s.setSample v).drawNo = s.drawNo := rfl

/-! ### setRet -/

@[simp] theorem setRet_cfg (r : Ret) : (s.setRet r).cfg = s.cfg := rfl
@[simp] theorem setRet_target (r : Ret) : (s.setRet r).target = s.target := rfl
@[simp] theorem setRet_sample (r : Ret) : (s.setRet r).sample = s.sample := rfl
@[simp] theorem setRet_phase (r : Ret) : (s.setRet r).phase = s.phase := rfl
@[simp] theorem setRet_seq (r : Ret) : (s.setRet r).seq = s.seq := rfl
@[simp] theorem setRet_out (r : Ret) : (s.setRet r).out = s.out := rfl
@[simp] theorem setRet_ie (r : Ret) : (s.setRet r).ie = s.ie := rfl
@[simp] theorem setRet_armed (r : Ret) : (s.setRet r).armed = s.armed := rfl
@[simp] theorem setRet_busOpen (r : Ret) : (s.setRet r).busOpen = s.busOpen := rfl
@[simp] theorem setRet_cmp (r : Ret) : (s.setRet r).cmp = s.cmp := rfl
@[simp] theorem setRet_tick (r : Ret) : (s.setRet r).tick = s.tick := rfl
@[simp] theorem setRet_pending (r : Ret) : (s.setRet r).pending = s.pending := rfl
@[simp] theorem setRet_wire (r : Ret) : (s.setRet r).wire = s.wire := rfl
@[simp] theorem setRet_pulse (r : Ret) : (s.setRet r).pulse = s.pulse := rfl
@[simp] theorem setRet_calX (r : Ret) : (s.setRet r).calX = s.calX := rfl
@[simp] theorem setRet_calY (r : Ret) : (s.setRet r).calY = s.calY := rfl
@[simp] theorem setRet_loop (r : Ret) : (s.setRet r).loop = s.loop := rfl
@[simp] theorem setRet_pos (r : Ret) : (s.setRet r).pos = s.pos := rfl
@[simp] theorem setRet_dx (r : Ret) : (s.setRet r).dx = s.dx := rfl
@[simp] theorem setRet_dy (r : Ret) : (s.setRet r).dy = s.dy := rfl
@[simp] theorem setRet_mode (r : Ret) : (s.setRet r).mode = s.mode := rfl
@[simp] theorem setRet_widths (r : Ret) : (s.setRet r).widths = s.widths := rfl
@[simp] theorem setRet_ret (r : Ret) : (s.setRet r).ret = r := rfl
@[simp] theorem setRet_script (r : Ret) : (s.setRet r).script = s.script := rfl
@[simp] theorem setRet_turnNo (r : Ret) : (s.setRet r).turnNo = s.turnNo := rfl
@[simp] theorem setRet_drawNo (r : Ret) : (s.setRet r).drawNo = s.drawNo := rfl

/-! ### setTarget -/

@[simp] theorem setTarget_cfg (i : Channel) (w : Nat) : (s.setTarget i w).cfg = s.cfg := rfl
@[simp] theorem setTarget_target (i : Channel) (w : Nat) : (s.setTarget i w).target = s.target.set i w := rfl
@[simp] theorem setTarget_sample (i : Channel) (w : Nat) : (s.setTarget i w).sample = s.sample := rfl
@[simp] theorem setTarget_phase (i : Channel) (w : Nat) : (s.setTarget i w).phase = s.phase := rfl
@[simp] theorem setTarget_seq (i : Channel) (w : Nat) : (s.setTarget i w).seq = s.seq := rfl
@[simp] theorem setTarget_out (i : Channel) (w : Nat) : (s.setTarget i w).out = s.out := rfl
@[simp] theorem setTarget_ie (i : Channel) (w : Nat) : (s.setTarget i w).ie = s.ie := rfl
@[simp] theorem setTarget_armed (i : Channel) (w : Nat) : (s.setTarget i w).armed = s.armed := rfl
@[simp] theorem setTarget_busOpen (i : Channel) (w : Nat) : (s.setTarget i w).busOpen = s.busOpen := rfl
@[simp] theorem setTarget_cmp (i : Channel) (w : Nat) : (s.setTarget i w).cmp = s.cmp := rfl
@[simp] theorem setTarget_tick (i : Channel) (w : Nat) : (s.setTarget i w).tick = s.tick := rfl
@[simp] theorem setTarget_pending (i : Channel) (w : Nat) : (s.setTarget i w).pending = s.pending := rfl
@[simp] theorem setTarget_wire (i : Channel) (w : Nat) : (s.setTarget i w).wire = s.wire := rfl
@[simp] theorem setTarget_pulse (i : Channel) (w : Nat) : (s.setTarget i w).pulse = s.pulse := rfl
@[simp] theorem setTarget_calX (i : Channel) (w : Nat) : (s.setTarget i w).calX = s.calX := rfl
@[simp] theorem setTarget_calY (i : Channel) (w : Nat) : (s.setTarget i w).calY = s.calY := rfl
@[simp] theorem setTarget_loop (i : Channel) (w : Nat) : (s.setTarget i w).loop = s.loop := rfl
@[simp] theorem setTarget_pos (i : Channel) (w : Nat) : (s.setTarget i w).pos = s.pos := rfl
@[simp] theorem setTarget_dx (i : Channel) (w : Nat) : (s.setTarget i w).dx = s.dx := rfl
@[simp] theorem setTarget_dy (i : Channel) (w : Nat) : (s.setTarget i w).dy = s.dy := rfl
@[simp] theorem setTarget_mode (i : Channel) (w : Nat) : (s.setTarget i w).mode = s.mode := rfl
@[simp] theorem setTarget_widths (i : Channel) (w : Nat) : (s.setTarget i w).widths = s.widths := rfl
@[simp] theorem setTarget_ret (i : Channel) (w : Nat) : (s.setTarget i w).ret = s.ret := rfl
@[simp] theorem setTarget_script (i : Channel) (w : Nat) : (s.setTarget i w).script = s.script := rfl
@[simp] theorem setTarget_turnNo (i : Channel) (w : Nat) : (s.setTarget i w).turnNo = s.turnNo := rfl
@[simp] theorem setTarget_drawNo (i : Channel) (w : Nat) : (s.setTarget i w).drawNo = s.drawNo := rfl

/-! ### setTick -/

@[simp] theorem setTick_cfg (n : Nat) : (s.setTick n).cfg = s.cfg := rfl
@[simp] theorem setTick_target (n : Nat) : (s.setTick n).target = s.target := rfl
@[simp] theorem setTick_sample (n : Nat) : (s.setTick n).sample = s.sample := rfl
@[simp] theorem setTick_phase (n : Nat) : (s.setTick n).phase = s.phase := rfl
@[simp] theorem setTick_seq (n : Nat) : (s.setTick n).seq = s.seq := rfl
@[simp] theorem setTick_out (n : Nat) : (s.setTick n).out = s.out := rfl
@[simp] theorem setTick_ie (n : Nat) : (s.setTick n).ie = s.ie := rfl
@[simp] theorem setTick_armed (n : Nat) : (s.setTick n).armed = s.armed := rfl
@[simp] theorem setTick_busOpen (n : Nat) : (s.setTick n).busOpen = s.busOpen := rfl
@[simp] theorem setTick_cmp (n : Nat) : (s.setTick n).cmp = s.cmp := rfl
@[simp] theorem setTick_tick (n : Nat) : (s.setTick n).tick = n := rfl
@[simp] theorem setTick_pending (n : Nat) : (s.setTick n).pending = s.pending := rfl
@[simp] theorem setTick_wire (n : Nat) : (s.setTick n).wire = s.wire := rfl
@[simp] theorem setTick_pulse (n : Nat) : (s.setTick n).pulse = s.pulse := rfl
@[simp] theorem setTick_calX (n : Nat) : (s.setTick n).calX = s.calX := rfl
@[simp] theorem setTick_calY (n : Nat) : (s.setTick n).calY = s.calY := rfl
@[simp] theorem setTick_loop (n : Nat) : (s.setTick n).loop = s.loop := rfl
@[simp] theorem setTick_pos (n : Nat) : (s.setTick n).pos = s.pos := rfl
@[simp] theorem setTick_dx (n : Nat) : (s.setTick n).dx = s.dx := rfl
@[simp] theorem setTick_dy (n : Nat) : (s.setTick n).dy = s.dy := rfl
@[simp] theorem setTick_mode (n : Nat) : (s.setTick n).mode = s.mode := rfl
@[simp] theorem setTick_widths (n : Nat) : (s.setTick n).widths = s.widths := rfl
@[simp] theorem setTick_ret (n : Nat) : (s.setTick n).ret = s.ret := rfl
@[simp] theorem setTick_script (n : Nat) : (s.setTick n).script = s.script := rfl
@[simp] theorem setTick_turnNo (n : Nat) : (s.setTick n).turnNo = s.turnNo := rfl
@[simp] theorem setTick_drawNo (n : Nat) : (s.setTick n).drawNo = s.drawNo := rfl

/-! ### setIe -/

@[simp] theorem setIe_cfg (b : Bool) : (s.setIe b).cfg = s.cfg := rfl
@[simp] theorem setIe_target (b : Bool) : (s.setIe b).target = s.target := rfl
@[simp] theorem setIe_sample (b : Bool) : (s.setIe b).sample = s.sample := rfl
@[simp] theorem setIe_phase (b : Bool) : (s.setIe b).phase = s.phase := rfl
@[simp] theorem setIe_seq (b : Bool) : (s.setIe b).seq = s.seq := rfl
@[simp] theorem setIe_out (b : Bool) : (s.setIe b).out = s.out := rfl
@[simp] theorem setIe_ie (b : Bool) : (s.setIe b).ie = b := rfl
@[simp] theorem setIe_armed (b : Bool) : (s.setIe b).armed = s.armed := rfl
@[simp] theorem setIe_busOpen (b : Bool) : (s.setIe b).busOpen = s.busOpen := rfl
@[simp] theorem setIe_cmp (b : Bool) : (s.setIe b).cmp = s.cmp := rfl
@[simp] theorem setIe_tick (b : Bool) : (s.setIe b).tick = s.tick := rfl
@[simp] theorem setIe_pending (b : Bool) : (s.setIe b).pending = s.pending := rfl
@[simp] theorem setIe_wire (b : Bool) : (s.setIe b).wire = s.wire := rfl
@[simp] theorem setIe_pulse (b : Bool) : (s.setIe b).pulse = s.pulse := rfl
@[simp] theorem setIe_calX (b : Bool) : (s.setIe b).calX = s.calX := rfl
@[simp] theorem setIe_calY (b : Bool) : (s.setIe b).calY = s.calY := rfl
@[simp] theorem setIe_loop (b : Bool) : (s.setIe b).loop = s.loop := rfl
@[simp] theorem setIe_pos (b : Bool) : (s.setIe b).pos = s.pos := rfl
@[simp] theorem setIe_dx (b : Bool) : (s.setIe b).dx = s.dx := rfl
@[simp] theorem setIe_dy (b : Bool) : (s.setIe b).dy = s.dy := rfl
@[simp] theorem setIe_mode (b : Bool) : (s.setIe b).mode = s.mode := rfl
@[simp] theorem setIe_widths (b : Bool) : (s.setIe b).widths = s.widths := rfl
@[simp] theorem setIe_ret (b : Bool) : (s.setIe b).ret = s.ret := rfl
@[simp] theorem setIe_script (b : Bool) : (s.setIe b).script = s.script := rfl
@[simp] theorem setIe_turnNo (b : Bool) : (s.setIe b).turnNo = s.turnNo := rfl
@[simp] theorem setIe_drawNo (b : Bool) : (s.setIe b).drawNo = s.drawNo := rfl

/-! ### setPos -/

@[simp] theorem setPos_cfg (p : HostPos) : (s.setPos p).cfg = s.cfg := rfl
@[simp] theorem setPos_target (p : HostPos) : (s.setPos p).target = s.target := rfl
@[simp] theorem setPos_sample (p : HostPos) : (s.setPos p).sample = s.sample := rfl
@[simp] theorem setPos_phase (p : HostPos) : (s.setPos p).phase = s.phase := rfl
@[simp] theorem setPos_seq (p : HostPos) : (s.setPos p).seq = s.seq := rfl
@[simp] theorem setPos_out (p : HostPos) : (s.setPos p).out = s.out := rfl
@[simp] theorem setPos_ie (p : HostPos) : (s.setPos p).ie = s.ie := rfl
@[simp] theorem setPos_armed (p : HostPos) : (s.setPos p).armed = s.armed := rfl
@[simp] theorem setPos_busOpen (p : HostPos) : (s.setPos p).busOpen = s.busOpen := rfl
@[simp] theorem setPos_cmp (p : HostPos) : (s.setPos p).cmp = s.cmp := rfl
@[simp] theorem setPos_tick (p : HostPos) : (s.setPos p).tick = s.tick := rfl
@[simp] theorem setPos_pending (p : HostPos) : (s.setPos p).pending = s.pending := rfl
@[simp] theorem setPos_wire (p : HostPos) : (s.setPos p).wire = s.wire := rfl
@[simp] theorem setPos_pulse (p : HostPos) : (s.setPos p).pulse = s.pulse := rfl
@[simp] theorem setPos_calX (p : HostPos) : (s.setPos p).calX = s.calX := rfl
@[simp] theorem setPos_calY (p : HostPos) : (s.setPos p).calY = s.calY := rfl
@[simp] theorem setPos_loop (p : HostPos) : (s.setPos p).loop = s.loop := rfl
@[simp] theorem setPos_pos (p : HostPos) : (s.setPos p).pos = p := rfl
@[simp] theorem setPos_dx (p : HostPos) : (s.setPos p).dx = s.dx := rfl
@[simp] theorem setPos_dy (p : HostPos) : (s.setPos p).dy = s.dy := rfl
@[simp] theorem setPos_mode (p : HostPos) : (s.setPos p).mode = s.mode := rfl
@[simp] theorem setPos_widths (p : HostPos) : (s.setPos p).widths = s.widths := rfl
@[simp] theorem setPos_ret (p : HostPos) : (s.setPos p).ret = s.ret := rfl
@[simp] theorem setPos_script (p : HostPos) : (s.setPos p).script = s.script := rfl
@[simp] theorem setPos_turnNo (p : HostPos) : (s.setPos p).turnNo = s.turnNo := rfl
@[simp] theorem setPos_drawNo (p : HostPos) : (s.setPos p).drawNo = s.drawNo := rfl

/-! ### setLoop -/

@[simp] theorem setLoop_cfg (l : Loop) : (s.setLoop l).cfg = s.cfg := rfl
@[simp] theorem setLoop_target (l : Loop) : (s.setLoop l).target = s.target := rfl
@[simp] theorem setLoop_sample (l : Loop) : (s.setLoop l).sample = s.sample := rfl
@[simp] theorem setLoop_phase (l : Loop) : (s.setLoop l).phase = s.phase := rfl
@[simp] theorem setLoop_seq (l : Loop) : (s.setLoop l).seq = s.seq := rfl
@[simp] theorem setLoop_out (l : Loop) : (s.setLoop l).out = s.out := rfl
@[simp] theorem setLoop_ie (l : Loop) : (s.setLoop l).ie = s.ie := rfl
@[simp] theorem setLoop_armed (l : Loop) : (s.setLoop l).armed = s.armed := rfl
@[simp] theorem setLoop_busOpen (l : Loop) : (s.setLoop l).busOpen = s.busOpen := rfl
@[simp] theorem setLoop_cmp (l : Loop) : (s.setLoop l).cmp = s.cmp := rfl
@[simp] theorem setLoop_tick (l : Loop) : (s.setLoop l).tick = s.tick := rfl
@[simp] theorem setLoop_pending (l : Loop) : (s.setLoop l).pending = s.pending := rfl
@[simp] theorem setLoop_wire (l : Loop) : (s.setLoop l).wire = s.wire := rfl
@[simp] theorem setLoop_pulse (l : Loop) : (s.setLoop l).pulse = s.pulse := rfl
@[simp] theorem setLoop_calX (l : Loop) : (s.setLoop l).calX = s.calX := rfl
@[simp] theorem setLoop_calY (l : Loop) : (s.setLoop l).calY = s.calY := rfl
@[simp] theorem setLoop_loop (l : Loop) : (s.setLoop l).loop = l := rfl
@[simp] theorem setLoop_pos (l : Loop) : (s.setLoop l).pos = s.pos := rfl
@[simp] theorem setLoop_dx (l : Loop) : (s.setLoop l).dx = s.dx := rfl
@[simp] theorem setLoop_dy (l : Loop) : (s.setLoop l).dy = s.dy := rfl
@[simp] theorem setLoop_mode (l : Loop) : (s.setLoop l).mode = s.mode := rfl
@[simp] theorem setLoop_widths (l : Loop) : (s.setLoop l).widths = s.widths := rfl
@[simp] theorem setLoop_ret (l : Loop) : (s.setLoop l).ret = s.ret := rfl
@[simp] theorem setLoop_script (l : Loop) : (s.setLoop l).script = s.script := rfl
@[simp] theorem setLoop_turnNo (l : Loop) : (s.setLoop l).turnNo = s.turnNo := rfl
@[simp] theorem setLoop_drawNo (l : Loop) : (s.setLoop l).drawNo = s.drawNo := rfl

/-! ### setCal -/

@[simp] theorem setCal_cfg (x y : Byte) : (s.setCal x y).cfg = s.cfg := rfl
@[simp] theorem setCal_target (x y : Byte) : (s.setCal x y).target = s.target := rfl
@[simp] theorem setCal_sample (x y : Byte) : (s.setCal x y).sample = s.sample := rfl
@[simp] theorem setCal_phase (x y : Byte) : (s.setCal x y).phase = s.phase := rfl
@[simp] theorem setCal_seq (x y : Byte) : (s.setCal x y).seq = s.seq := rfl
@[simp] theorem setCal_out (x y : Byte) : (s.setCal x y).out = s.out := rfl
@[simp] theorem setCal_ie (x y : Byte) : (s.setCal x y).ie = s.ie := rfl
@[simp] theorem setCal_armed (x y : Byte) : (s.setCal x y).armed = s.armed := rfl
@[simp] theorem setCal_busOpen (x y : Byte) : (s.setCal x y).busOpen = s.busOpen := rfl
@[simp] theorem setCal_cmp (x y : Byte) : (s.setCal x y).cmp = s.cmp := rfl
@[simp] theorem setCal_tick (x y : Byte) : (s.setCal x y).tick = s.tick := rfl
@[simp] theorem setCal_pending (x y : Byte) : (s.setCal x y).pending = s.pending := rfl
@[simp] theorem setCal_wire (x y : Byte) : (s.setCal x y).wire = s.wire := rfl
@[simp] theorem setCal_pulse (x y : Byte) : (s.setCal x y).pulse = s.pulse := rfl
@[simp] theorem setCal_calX (x y : Byte) : (s.setCal x y).calX = x := rfl
@[simp] theorem setCal_calY (x y : Byte) : (s.setCal x y).calY = y := rfl
@[simp] theorem setCal_loop (x y : Byte) : (s.setCal x y).loop = s.loop := rfl
@[simp] theorem setCal_pos (x y : Byte) : (s.setCal x y).pos = s.pos := rfl
@[simp] theorem setCal_dx (x y : Byte) : (s.setCal x y).dx = s.dx := rfl
@[simp] theorem setCal_dy (x y : Byte) : (s.setCal x y).dy = s.dy := rfl
@[simp] theorem setCal_mode (x y : Byte) : (s.setCal x y).mode = s.mode := rfl
@[simp] theorem setCal_widths (x y : Byte) : (s.setCal x y).widths = s.widths := rfl
@[simp] theorem setCal_ret (x y : Byte) : (s.setCal x y).ret = s.ret := rfl
@[simp] theorem setCal_script (x y : Byte) : (s.setCal x y).script = s.script := rfl
@[simp] theorem setCal_turnNo (x y : Byte) : (s.setCal x y).turnNo = s.turnNo := rfl
@[simp] theorem setCal_drawNo (x y : Byte) : (s.setCal x y).drawNo = s.drawNo := rfl

/-! ### setDx -/

@[simp] theorem setDx_cfg (d : Int) : (s.setDx d).cfg = s.cfg := rfl
@[simp] theorem setDx_target (d : Int) : (s.setDx d).target = s.target := rfl
@[simp] theorem setDx_sample (d : Int) : (s.setDx d).sample = s.sample := rfl
@[simp] theorem setDx_phase (d : Int) : (s.setDx d).phase = s.phase := rfl
@[simp] theorem setDx_seq (d : Int) : (s.setDx d).seq = s.seq := rfl
@[simp] theorem setDx_out (d : Int) : (s.setDx d).out = s.out := rfl
@[simp] theorem setDx_ie (d : Int) : (s.setDx d).ie = s.ie := rfl
@[simp] theorem setDx_armed (d : Int) : (s.setDx d).armed = s.armed := rfl
@[simp] theorem setDx_busOpen (d : Int) : (s.setDx d).busOpen = s.busOpen := rfl
@[simp] theorem setDx_cmp (d : Int) : (s.setDx d).cmp = s.cmp := rfl
@[simp] theorem setDx_tick (d : Int) : (s.setDx d).tick = s.tick := rfl
@[simp] theorem setDx_pending (d : Int) : (s.setDx d).pending = s.pending := rfl
@[simp] theorem setDx_wire (d : Int) : (s.setDx d).wire = s.wire := rfl
@[simp] theorem setDx_pulse (d : Int) : (s.setDx d).pulse = s.pulse := rfl
@[simp] theorem setDx_calX (d : Int) : (s.setDx d).calX = s.calX := rfl
@[simp] theorem setDx_calY (d : Int) : (s.setDx d).calY = s.calY := rfl
@[simp] theorem setDx_loop (d : Int) : (s.setDx d).loop = s.loop := rfl
@[simp] theorem setDx_pos (d : Int) : (s.setDx d).pos = s.pos := rfl
@[simp] theorem setDx_dx (d : Int) : (s.setDx d).dx = d := rfl
@[simp] theorem setDx_dy (d : Int) : (s.setDx d).dy = s.dy := rfl
@[simp] theorem setDx_mode (d : Int) : (s.setDx d).mode = s.mode := rfl
@[simp] theorem setDx_widths (d : Int) : (s.setDx d).widths = s.widths := rfl
@[simp] theorem setDx_ret (d : Int) : (s.setDx d).ret = s.ret := rfl
@[simp] theorem setDx_script (d : Int) : (s.setDx d).script = s.script := rfl
@[simp] theorem setDx_turnNo (d : Int) : (s.setDx d).turnNo = s.turnNo := rfl
@[simp] theorem setDx_drawNo (d : Int) : (s.setDx d).drawNo = s.drawNo := rfl

/-! ### setDy -/

@[simp] theorem setDy_cfg (d : Int) : (s.setDy d).cfg = s.cfg := rfl
@[simp] theorem setDy_target (d : Int) : (s.setDy d).target = s.target := rfl
@[simp] theorem setDy_sample (d : Int) : (s.setDy d).sample = s.sample := rfl
@[simp] theorem setDy_phase (d : Int) : (s.setDy d).phase = s.phase := rfl
@[simp] theorem setDy_seq (d : Int) : (s.setDy d).seq = s.seq := rfl
@[simp] theorem setDy_out (d : Int) : (s.setDy d).out = s.out := rfl
@[simp] theorem setDy_ie (d : Int) : (s.setDy d).ie = s.ie := rfl
@[simp] theorem setDy_armed (d : Int) : (s.setDy d).armed = s.armed := rfl
@[simp] theorem setDy_busOpen (d : Int) : (s.setDy d).busOpen = s.busOpen := rfl
@[simp] theorem setDy_cmp (d : Int) : (s.setDy d).cmp = s.cmp := rfl
@[simp] theorem setDy_tick (d : Int) : (s.setDy d).tick = s.tick := rfl
@[simp] theorem setDy_pending (d : Int) : (s.setDy d).pending = s.pending := rfl
@[simp] theorem setDy_wire (d : Int) : (s.setDy d).wire = s.wire := rfl
@[simp] theorem setDy_pulse (d : Int) : (s.setDy d).pulse = s.pulse := rfl
@[simp] theorem setDy_calX (d : Int) : (s.setDy d).calX = s.calX := rfl
@[simp] theorem setDy_calY (d : Int) : (s.setDy d).calY = s.calY := rfl
@[simp] theorem setDy_loop (d : Int) : (s.setDy d).loop = s.loop := rfl
@[simp] theorem setDy_pos (d : Int) : (s.setDy d).pos = s.pos := rfl
@[simp] theorem setDy_dx (d : Int) : (s.setDy d).dx = s.dx := rfl
@[simp] theorem setDy_dy (d : Int) : (s.setDy d).dy = d := rfl
@[simp] theorem setDy_mode (d : Int) : (s.setDy d).mode = s.mode := rfl
@[simp] theorem setDy_widths (d : Int) : (s.setDy d).widths = s.widths := rfl
@[simp] theorem setDy_ret (d : Int) : (s.setDy d).ret = s.ret := rfl
@[simp] theorem setDy_script (d : Int) : (s.setDy d).script = s.script := rfl
@[simp] theorem setDy_turnNo (d : Int) : (s.setDy d).turnNo = s.turnNo := rfl
@[simp] theorem setDy_drawNo (d : Int) : (s.setDy d).drawNo = s.drawNo := rfl

/-! ### setMode -/

@[simp] theorem setMode_cfg (m : Mode) : (s.setMode m).cfg = s.cfg := rfl
@[simp] theorem setMode_target (m : Mode) : (s.setMode m).target = s.target := rfl
@[simp] theorem setMode_sample (m : Mode) : (s.setMode m).sample = s.sample := rfl
@[simp] theorem setMode_phase (m : Mode) : (s.setMode m).phase = s.phase := rfl
@[simp] theorem setMode_seq (m : Mode) : (s.setMode m).seq = s.seq := rfl
@[simp] theorem setMode_out (m : Mode) : (s.setMode m).out = s.out := rfl
@[simp] theorem setMode_ie (m : Mode) : (s.setMode m).ie = s.ie := rfl
@[simp] theorem setMode_armed (m : Mode) : (s.setMode m).armed = s.armed := rfl
@[simp] theorem setMode_busOpen (m : Mode) : (s.setMode m).busOpen = s.busOpen := rfl
@[simp] theorem setMode_cmp (m : Mode) : (s.setMode m).cmp = s.cmp := rfl
@[simp] theorem setMode_tick (m : Mode) : (s.setMode m).tick = s.tick := rfl
@[simp] theorem setMode_pending (m : Mode) : (s.setMode m).pending = s.pending := rfl
@[simp] theorem setMode_wire (m : Mode) : (s.setMode m).wire = s.wire := rfl
@[simp] theorem setMode_pulse (m : Mode) : (s.setMode m).pulse = s.pulse := rfl
@[simp] theorem setMode_calX (m : Mode) : (s.setMode m).calX = s.calX := rfl
@[simp] theorem setMode_calY (m : Mode) : (s.setMode m).calY = s.calY := rfl
@[simp] theorem setMode_loop (m : Mode) : (s.setMode m).loop = s.loop := rfl
@[simp] theorem setMode_pos (m : Mode) : (s.setMode m).pos = s.pos := rfl
@[simp] theorem setMode_dx (m : Mode) : (s.setMode m).dx = s.dx := rfl
@[simp] theorem setMode_dy (m : Mode) : (s.setMode m).dy = s.dy := rfl
@[simp] theorem setMode_mode (m : Mode) : (s.setMode m).mode = m := rfl
@[simp] theorem setMode_widths (m : Mode) : (s.setMode m).widths = s.widths := rfl
@[simp] theorem setMode_ret (m : Mode) : (s.setMode m).ret = s.ret := rfl
@[simp] theorem setMode_script (m : Mode) : (s.setMode m).script = s.script := rfl
@[simp] theorem setMode_turnNo (m : Mode) : (s.setMode m).turnNo = s.turnNo := rfl
@[simp] theorem setMode_drawNo (m : Mode) : (s.setMode m).drawNo = s.drawNo := rfl

/-! ### setWidths -/

@[simp] theorem setWidths_cfg (w : Vector Nat numChannels) : (s.setWidths w).cfg = s.cfg := rfl
@[simp] theorem setWidths_target (w : Vector Nat numChannels) : (s.setWidths w).target = s.target := rfl
@[simp] theorem setWidths_sample (w : Vector Nat numChannels) : (s.setWidths w).sample = s.sample := rfl
@[simp] theorem setWidths_phase (w : Vector Nat numChannels) : (s.setWidths w).phase = s.phase := rfl
@[simp] theorem setWidths_seq (w : Vector Nat numChannels) : (s.setWidths w).seq = s.seq := rfl
@[simp] theorem setWidths_out (w : Vector Nat numChannels) : (s.setWidths w).out = s.out := rfl
@[simp] theorem setWidths_ie (w : Vector Nat numChannels) : (s.setWidths w).ie = s.ie := rfl
@[simp] theorem setWidths_armed (w : Vector Nat numChannels) : (s.setWidths w).armed = s.armed := rfl
@[simp] theorem setWidths_busOpen (w : Vector Nat numChannels) : (s.setWidths w).busOpen = s.busOpen := rfl
@[simp] theorem setWidths_cmp (w : Vector Nat numChannels) : (s.setWidths w).cmp = s.cmp := rfl
@[simp] theorem setWidths_tick (w : Vector Nat numChannels) : (s.setWidths w).tick = s.tick := rfl
@[simp] theorem setWidths_pending (w : Vector Nat numChannels) : (s.setWidths w).pending = s.pending := rfl
@[simp] theorem setWidths_wire (w : Vector Nat numChannels) : (s.setWidths w).wire = s.wire := rfl
@[simp] theorem setWidths_pulse (w : Vector Nat numChannels) : (s.setWidths w).pulse = s.pulse := rfl
@[simp] theorem setWidths_calX (w : Vector Nat numChannels) : (s.setWidths w).calX = s.calX := rfl
@[simp] theorem setWidths_calY (w : Vector Nat numChannels) : (s.setWidths w).calY = s.calY := rfl
@[simp] theorem setWidths_loop (w : Vector Nat numChannels) : (s.setWidths w).loop = s.loop := rfl
@[simp] theorem setWidths_pos (w : Vector Nat numChannels) : (s.setWidths w).pos = s.pos := rfl
@[simp] theorem setWidths_dx (w : Vector Nat numChannels) : (s.setWidths w).dx = s.dx := rfl
@[simp] theorem setWidths_dy (w : Vector Nat numChannels) : (s.setWidths w).dy = s.dy := rfl
@[simp] theorem setWidths_mode (w : Vector Nat numChannels) : (s.setWidths w).mode = s.mode := rfl
@[simp] theorem setWidths_widths (w : Vector Nat numChannels) : (s.setWidths w).widths = w := rfl
@[simp] theorem setWidths_ret (w : Vector Nat numChannels) : (s.setWidths w).ret = s.ret := rfl
@[simp] theorem setWidths_script (w : Vector Nat numChannels) : (s.setWidths w).script = s.script := rfl
@[simp] theorem setWidths_turnNo (w : Vector Nat numChannels) : (s.setWidths w).turnNo = s.turnNo := rfl
@[simp] theorem setWidths_drawNo (w : Vector Nat numChannels) : (s.setWidths w).drawNo = s.drawNo := rfl

/-! ### drawn -/

@[simp] theorem drawn_cfg : (s.drawn).cfg = s.cfg := rfl
@[simp] theorem drawn_target : (s.drawn).target = s.target := rfl
@[simp] theorem drawn_sample : (s.drawn).sample = s.sample := rfl
@[simp] theorem drawn_phase : (s.drawn).phase = s.phase := rfl
@[simp] theorem drawn_seq : (s.drawn).seq = s.seq := rfl
@[simp] theorem drawn_out : (s.drawn).out = s.out := rfl
@[simp] theorem drawn_ie : (s.drawn).ie = s.ie := rfl
@[simp] theorem drawn_armed : (s.drawn).armed = s.armed := rfl
@[simp] theorem drawn_busOpen : (s.drawn).busOpen = s.busOpen := rfl
@[simp] theorem drawn_cmp : (s.drawn).cmp = s.cmp := rfl
@[simp] theorem drawn_tick : (s.drawn).tick = s.tick := rfl
@[simp] theorem drawn_pending : (s.drawn).pending = s.pending := rfl
@[simp] theorem drawn_wire : (s.drawn).wire = s.wire := rfl
@[simp] theorem drawn_pulse : (s.drawn).pulse = s.pulse := rfl
@[simp] theorem drawn_calX : (s.drawn).calX = s.calX := rfl
@[simp] theorem drawn_calY : (s.drawn).calY = s.calY := rfl
@[simp] theorem drawn_loop : (s.drawn).loop = s.loop := rfl
@[simp] theorem drawn_pos : (s.drawn).pos = s.pos := rfl
@[simp] theorem drawn_dx : (s.drawn).dx = s.dx := rfl
@[simp] theorem drawn_dy : (s.drawn).dy = s.dy := rfl
@[simp] theorem drawn_mode : (s.drawn).mode = s.mode := rfl
@[simp] theorem drawn_widths : (s.drawn).widths = s.widths := rfl
@[simp] theorem drawn_ret : (s.drawn).ret = s.ret := rfl
@[simp] theorem drawn_script : (s.drawn).script = s.script := rfl
@[simp] theorem drawn_turnNo : (s.drawn).turnNo = s.turnNo := rfl
@[simp] theorem drawn_drawNo : (s.drawn).drawNo = s.drawNo + 1 := rfl

end Sys2Proof.Machine.State
end

