-- ==== Sys2Proof/Laws/Ops.lean ====
section
/-!
SUPPORT. For each shared operation, one lemma that says once everything it can do; provers cite these instead of unfolding
the operation.
-/

namespace Sys2Proof.Machine

/-! ### Chaining -/

@[simp] theorem andThen_next (s : State) (f : State → Out) : andThen (.next s) f = f s := rfl
@[simp] theorem andThen_refused (r : Refusal) (f : State → Out) : andThen (.refused r) f = .refused r := rfl
@[simp] theorem mapNext_next (s : State) (f : State → State) : mapNext (.next s) f = .next (f s) := rfl
@[simp] theorem mapNext_refused (r : Refusal) (f : State → State) : mapNext (.refused r) f = .refused r := rfl

/-- A chain answers a next state only through a next state of its first part. -/
theorem andThen_eq_next {o : Out} {f : State → Out} {t : State} (h : andThen o f = .next t) :
    ∃ s, o = .next s ∧ f s = .next t := by
  cases o with
  | next s => exact ⟨s, rfl, h⟩
  | fault r => cases h
  | refused r => cases h

theorem mapNext_eq_next {o : Out} {f : State → State} {t : State} (h : mapNext o f = .next t) :
    ∃ s, o = .next s ∧ f s = t := by
  obtain ⟨s, hs, ht⟩ := andThen_eq_next h
  exact ⟨s, hs, by simpa using ht⟩

/-! ### The foreground between operations -/

theorem atBoundary_iff (s : State) :
    s.atBoundary = true ↔ s.pending = none ∧ s.seq = none ∧ ∃ p, s.pos = .ready p := by
  unfold State.atBoundary
  cases s.pending <;> cases s.seq <;> cases s.pos <;> simp

/-- Between operations the operation runs. -/
theorem whenIdle_of_atBoundary {s : State} (h : s.atBoundary = true) (k : State → Out) : whenIdle s k = k s := by
  simp [whenIdle, h, ((atBoundary_iff s).mp h).1]

/-- An operation that answers a next state was issued between operations. -/
theorem whenIdle_eq_next {s t : State} {k : State → Out} (h : whenIdle s k = .next t) :
    s.atBoundary = true ∧ k s = .next t := by
  unfold whenIdle at h
  split at h
  · cases h
  · split at h
    · exact ⟨‹_›, h⟩
    · cases h

/-! ### Issue and Complete -/

theorem issue_eq_next {p : Prim} {s t : State} (h : issue p s = .next t) :
    s.pending = none ∧ s.busOpen = p.needsOpen ∧ t = s.setPending (some p) := by
  unfold issue at h
  split at h
  · cases h
  · split at h
    · cases h
      exact ⟨not_not.mp ‹_›, ‹_›, rfl⟩
    · cases h

theorem issue_of_legal {p : Prim} {s : State} (hp : s.pending = none) (hb : s.busOpen = p.needsOpen) :
    issue p s = .next (s.setPending (some p)) := by
  simp [issue, hp, hb]

@[simp] theorem deliver_host {r : Ret} {s : State} (h : s.seq = none) : deliver r s = s.setRet r := by
  simp [deliver, h]

theorem deliver_ack {a : Ack} {s : State} {run : SeqRun} (h : s.seq = some run) : deliver (.ack a) s = s := by
  simp [deliver, h]

theorem deliver_byte {v : Byte} {s : State} {run : SeqRun} (h : s.seq = some run) :
    deliver (.byte v) s = s.setSeq (some { run with got := run.got ++ [v] }) := by
  simp [deliver, h]

theorem complete_none {s : State} (h : s.pending = none) (a : Ack) (v : Byte) : complete a v s = s := by
  simp [complete, h]

theorem complete_start {s : State} (h : s.pending = some .start) (a : Ack) (v : Byte) :
    complete a v s = ((s.setPending none).logWire .start).setBusOpen true := by
  simp [complete, h]

theorem complete_stop {s : State} (h : s.pending = some .stop) (a : Ack) (v : Byte) :
    complete a v s = ((s.setPending none).logWire .stop).setBusOpen false := by
  simp [complete, h]

theorem complete_write {s : State} {b : Byte} (h : s.pending = some (.write b)) (a : Ack) (v : Byte) :
    complete a v s = deliver (.ack a) ((s.setPending none).logWire (.sent b a)) := by
  simp [complete, h]

theorem complete_read {s : State} {k : Bool} (h : s.pending = some (.read k)) (a : Ack) (v : Byte) :
    complete a v s = deliver (.byte v) ((s.setPending none).logWire (.received v (readAck k))) := by
  simp [complete, h]

/-- Complete leaves nothing in flight. -/
@[simp] theorem complete_pending (a : Ack) (v : Byte) (s : State) : (complete a v s).pending = none := by
  unfold complete
  split <;> (try unfold deliver) <;> (try split) <;> simp_all

/-- Complete touches only the bus half, and what the primitive's caller is given (20_memory.md R82). -/
theorem complete_eq (a : Ack) (v : Byte) (s : State) :
    complete a v s =
      { s with
        pending := none
        busOpen := (complete a v s).busOpen
        wire    := (complete a v s).wire
        seq     := (complete a v s).seq
        ret     := (complete a v s).ret } := by
  unfold complete deliver
  cases h : s.pending with
  | none => cases s; simp_all
  | some p => cases p <;> cases hs : s.seq <;> cases s <;> simp_all [State.setPending, State.logWire, State.setBusOpen, State.setRet, State.setSeq]

/-! ### Sequences -/

theorem enterSequence_eq_next {n : SeqName} {s t : State} (h : enterSequence n s = .next t) :
    s.pending = none ∧ s.busOpen = false ∧ t = s.setSeq (some { name := n, pos := 0, got := [] }) := by
  unfold enterSequence at h
  split at h
  · cases h
  · split at h
    · cases h
    · cases h
      exact ⟨not_not.mp ‹_›, Bool.eq_false_of_not_eq_true ‹_›, rfl⟩

theorem enterSequence_of_closed {n : SeqName} {s : State} (hp : s.pending = none) (hb : s.busOpen = false) :
    enterSequence n s = .next (s.setSeq (some { name := n, pos := 0, got := [] })) := by
  simp [enterSequence, hp, hb]

theorem settle_eq_next {s t : State} (h : settle s = .next t) : s.busOpen = false ∧ t = s.logWire .delay := by
  unfold settle at h
  split at h
  · cases h
  · cases h
    exact ⟨Bool.eq_false_of_not_eq_true ‹_›, rfl⟩

theorem finishSequence_eq_next {run : SeqRun} {s t : State} (h : finishSequence run s = .next t) :
    (run.name = .sensorInit ∧ t = s.setSeq none) ∨
    (run.name ≠ .sensorInit ∧ ∃ v, sampleOf s.cfg.lit run.got = some v ∧
      t = ((s.setSample v).setSeq none).setRet (.sample v)) := by
  unfold finishSequence at h
  cases hn : run.name with
  | sensorInit => simp only [hn] at h; cases h; exact .inl ⟨rfl, rfl⟩
  | requestSample =>
    cases hv : sampleOf s.cfg.lit run.got with
    | none => simp [hn, hv] at h
    | some v => simp only [hn, hv] at h; cases h; exact .inr ⟨by simp, v, rfl, rfl⟩
  | readSample =>
    cases hv : sampleOf s.cfg.lit run.got with
    | none => simp [hn, hv] at h
    | some v => simp only [hn, hv] at h; cases h; exact .inr ⟨by simp, v, rfl, rfl⟩

/-- A foreground step in a sequence issues the next primitive, spends the next delay, or returns. -/
theorem stepSequence_eq_next {run : SeqRun} {s t : State} (h : stepSequence run s = .next t) :
    (∃ p, run.next s.cfg.lit = some (.prim p) ∧ s.pending = none ∧ s.busOpen = p.needsOpen ∧
      t = (s.setSeq (some { run with pos := run.pos + 1 })).setPending (some p)) ∨
    (run.next s.cfg.lit = some .delay ∧ s.busOpen = false ∧
      t = (s.setSeq (some { run with pos := run.pos + 1 })).logWire .delay) ∨
    (run.next s.cfg.lit = none ∧ finishSequence run s = .next t) := by
  unfold stepSequence at h
  split at h
  · obtain ⟨hp, hb, rfl⟩ := issue_eq_next h
    exact .inl ⟨_, ‹_›, hp, hb, rfl⟩
  · obtain ⟨hb, rfl⟩ := settle_eq_next h
    exact .inr (.inl ⟨‹_›, hb, rfl⟩)
  · exact .inr (.inr ⟨‹_›, h⟩)

/-! ### The interrupt -/

/-- N_STATES of R7 counts the states of the scheduler, each listed once. -/
theorem phase_all : Phase.all.length = numStates ∧ Phase.all.Nodup ∧ ∀ p : Phase, p ∈ Phase.all := by
  refine ⟨rfl, by decide, fun p => ?_⟩
  cases p <;> decide


/-- The handler writes the outputs, CMP, TICK, PULSE and phase, and nothing else (R190, R258). -/
theorem compareEvent_eq (s : State) :
    compareEvent s =
      { s with
        out   := (compareEvent s).out
        cmp   := (compareEvent s).cmp
        tick  := (compareEvent s).tick
        pulse := (compareEvent s).pulse
        phase := (compareEvent s).phase } := by
  unfold compareEvent
  split
  · unfold interruptReturn interruptEntry compareMatchHandler
    split <;> rfl
  · rfl

theorem compareEvent_disabled {s : State} (h : s.interruptEnabled = false) : compareEvent s = s := by
  simp [compareEvent, h]

theorem compareEvent_pulse {s : State} {k : Channel} (h : s.interruptEnabled = true)
    (hk : s.phase.succ.channel = some k) : compareEvent s = enterPulse k s.phase.succ s := by
  simp [compareEvent, h, interruptReturn, interruptEntry, compareMatchHandler, hk]

theorem compareEvent_gap {s : State} (h : s.interruptEnabled = true) (hk : s.phase.succ.channel = none) :
    compareEvent s = enterGap s := by
  simp [compareEvent, h, interruptReturn, interruptEntry, compareMatchHandler, hk]

/-! ### The scheduler's foreground operations -/

theorem storeTarget_eq_next {i w : Nat} {s t : State} (h : storeTarget i w s = .next t) :
    ∃ hi : i < numChannels, s.cfg.InRange w ∧ t = s.setTarget ⟨i, hi⟩ w := by
  unfold storeTarget at h
  split at h
  · split at h
    · cases h
      exact ⟨‹_›, ‹_›, rfl⟩
    · cases h
  · cases h

theorem initScheduler_eq_next {s t : State} (h : Machine.initScheduler s = .next t) :
    s.ie = false ∧ t = { s with out := outputsInactive, armed := true, phase := .gap, tick := 0 } := by
  unfold Machine.initScheduler at h
  split at h
  · cases h
  · cases h
    exact ⟨Bool.eq_false_of_not_eq_true ‹_›, rfl⟩

theorem enableScheduler_eq_next {s t : State} (h : enableScheduler s = .next t) :
    s.armed = true ∧ t = s.setIe true := by
  unfold enableScheduler at h
  split at h
  · cases h
    exact ⟨‹_›, rfl⟩
  · cases h

/-! ### Bytes over the wire -/

/-- What puts a transfer in flight: nothing, the sequence's own next step, or a host that is between operations. -/
theorem putInFlight_eq_next {p : Prim} {s t : State} (h : putInFlight p s = .next t) :
    (s.pending = some p ∧ t = s) ∨
    (∃ run, s.seq = some run ∧ s.pending = none ∧ run.next s.cfg.lit = some (.prim p) ∧ stepSequence run s = .next t) ∨
    (s.atBoundary = true ∧ issue p s = .next t) := by
  unfold putInFlight at h
  split at h
  · split at h
    · cases h
      exact .inl ⟨by simp_all, rfl⟩
    · cases h
  · split at h
    · split at h
      · exact .inr (.inl ⟨_, ‹_›, ‹_›, ‹_›, h⟩)
      · cases h
    · split at h
      · exact .inr (.inr ⟨‹_›, h⟩)
      · cases h

/-- The transfer the bus carries next can be put in flight, if it is not yet, wherever BUS_OPEN allows it. -/
theorem putInFlight_nextTransfer {p : Prim} {s : State} (h : s.nextTransfer = some p) :
    (s.pending = some p ∧ putInFlight p s = .next s) ∨
    (∃ run, s.pending = none ∧ s.seq = some run ∧ run.next s.cfg.lit = some (.prim p) ∧
      putInFlight p s = issue p (s.setSeq (some { run with pos := run.pos + 1 }))) := by
  unfold State.nextTransfer at h
  split at h
  · cases h
    exact .inl ⟨‹_›, by simp [putInFlight, *]⟩
  · rename_i run hp hs
    split at h
    · cases h
      exact .inr ⟨run, hp, hs, ‹_›, by simp [putInFlight, stepSequence, *]⟩
    · cases h
  · cases h

theorem transfer_eq_next {p : Prim} {a : Ack} {v : Byte} {s t : State} (h : transfer p a v s = .next t) :
    ∃ u, putInFlight p s = .next u ∧ t = complete a v u := by
  obtain ⟨u, hu, rfl⟩ := mapNext_eq_next h
  exact ⟨u, hu, rfl⟩

/-! ### Turns -/

theorem nextTurn_script {s : State} {t : Turn} {rest : List Turn} (h : s.script = t :: rest) :
    nextTurn s = (t, { s with script := rest }) := by
  simp [nextTurn, h]

theorem nextTurn_free {s : State} (h : s.script = []) :
    nextTurn s = (Config.freeTurn s.turnNo, { s with turnNo := s.turnNo + 1 }) := by
  simp [nextTurn, h]

/-- Taking note of a turn changes only the script and its counter. -/
theorem nextTurn_state (s : State) :
    (nextTurn s).2 = { s with script := (nextTurn s).2.script, turnNo := (nextTurn s).2.turnNo } := by
  unfold nextTurn
  split <;> rfl

end Sys2Proof.Machine
end

