-- ==== Sys2Proof/Laws/Sequences.lean ====
section
/-!
SUPPORT. Runs of turns, and the one induction over a sequence's list of steps: driven by its turns, a sequence appends the
symbols of its steps to WIRE and keeps the bytes of its reads (41_sensor_client.md R160).
-/

namespace Sys2Proof.Machine

/-! ### Runs -/

@[simp] theorem runTurns_nil (s : State) : runTurns [] s = .next s := rfl

theorem runTurns_cons (t : Turn) (ts : List Turn) (s : State) :
    runTurns (t :: ts) s = andThen (takeTurn t s) (runTurns ts) := rfl

theorem runTurns_append (l m : List Turn) (s : State) :
    runTurns (l ++ m) s = andThen (runTurns l s) (runTurns m) := by
  induction l generalizing s with
  | nil => rfl
  | cons t l ih =>
    simp only [List.cons_append, runTurns]
    cases takeTurn t s with
    | next u => simp [ih]
    | fault r => rfl
    | refused r => rfl

/-! ### The foreground's turn -/

theorem stepForeground_pending {s : State} {p : Prim} (h : s.pending = some p) : stepForeground s = .next s := by
  simp [stepForeground, h]

theorem stepForeground_sequence {s : State} {run : SeqRun} (hp : s.pending = none) (hs : s.seq = some run) :
    stepForeground s = stepSequence run s := by
  simp [stepForeground, hp, hs]

theorem stepForeground_host {s : State} (hp : s.pending = none) (hs : s.seq = none) :
    stepForeground s = stepHost s := by
  simp [stepForeground, hp, hs]

/-! ### What a list of sequence steps does -/

/-- The symbol a step appends to WIRE, with the target's draw `d`. -/
def wireOf (d : Ack × Byte) : SeqStep → Symbol
  | .prim .start     => .start
  | .prim .stop      => .stop
  | .prim (.write b) => .sent b d.1
  | .prim (.read k)  => .received d.2 (readAck k)
  | .delay           => .delay

/-- The byte a step leaves for the sample. -/
def byteOf (d : Ack × Byte) : SeqStep → List Byte
  | .prim (.read _) => [d.2]
  | _               => []

/-- BUS_OPEN after a step, from BUS_OPEN before it. -/
def openStep (o : Bool) : SeqStep → Bool
  | .prim .start => true
  | .prim .stop  => false
  | _            => o

/-- Each step finds BUS_OPEN as it requires (R133, R163). -/
def legalFrom : Bool → List SeqStep → Bool
  | _, []      => true
  | o, x :: xs =>
    (match x with
      | .prim p => o == p.needsOpen
      | .delay  => !o) && legalFrom (openStep o x) xs

/-- The turns for the steps `l`, the first of them being step `j` of its sequence. -/
def driveFrom (d : Nat → Ack × Byte) (j : Nat) (l : List SeqStep) : List Turn :=
  ((l.zipIdx j).map fun (x, i) => driveStep (d i) x).flatten

/-- The symbols of the steps `l` from step `j` on. -/
def wireFrom (d : Nat → Ack × Byte) (j : Nat) (l : List SeqStep) : List Symbol :=
  (l.zipIdx j).map fun (x, i) => wireOf (d i) x

/-- The bytes read by the steps `l` from step `j` on. -/
def bytesFrom (d : Nat → Ack × Byte) (j : Nat) (l : List SeqStep) : List Byte :=
  ((l.zipIdx j).map fun (x, i) => byteOf (d i) x).flatten

/-- One step of a sequence, driven: its symbol on WIRE, its byte kept, the position one further. -/
theorem driveStep_run {s : State} {run : SeqRun} {x : SeqStep} {d : Ack × Byte} (hp : s.pending = none)
    (hs : s.seq = some run) (hx : run.next s.cfg.lit = some x) (hl : legalFrom s.busOpen [x] = true) :
    runTurns (driveStep d x) s = .next { s with
      seq := some { run with pos := run.pos + 1, got := run.got ++ byteOf d x }
      wire := s.wire ++ [wireOf d x]
      busOpen := openStep s.busOpen x } := by
  cases x with
  | delay =>
    have hb : s.busOpen = false := by simpa [legalFrom] using hl
    simp [driveStep, runTurns, takeTurn, stepForeground_sequence hp hs, stepSequence, hx, settle, hb, State.setSeq,
      State.logWire, byteOf, wireOf, openStep]
  | prim p =>
    have hb : s.busOpen = p.needsOpen := by simpa [legalFrom] using hl
    have hi : takeTurn .foreground s =
        .next ((s.setSeq (some { run with pos := run.pos + 1 })).setPending (some p)) := by
      simp only [takeTurn, stepForeground_sequence hp hs, stepSequence, hx]
      exact issue_of_legal (by simpa using hp) (by simpa using hb)
    rw [driveStep, runTurns_cons, hi, andThen_next, runTurns_cons]
    cases p <;>
      simp [takeTurn, complete, deliver, State.setSeq, State.setPending, State.logWire, State.setBusOpen, byteOf, wireOf, openStep, hp]

/-- The steps `todo` of a sequence that has done `before`, driven one after another. -/
theorem driveFrom_run (d : Nat → Ack × Byte) (n : SeqName) (todo : List SeqStep) :
    ∀ (s : State) (before : List SeqStep) (got : List Byte),
      n.steps s.cfg.lit = before ++ todo → s.pending = none →
      s.seq = some { name := n, pos := before.length, got := got } → legalFrom s.busOpen todo = true →
      runTurns (driveFrom d before.length todo) s = .next { s with
        seq := some { name := n, pos := (before ++ todo).length, got := got ++ bytesFrom d before.length todo }
        wire := s.wire ++ wireFrom d before.length todo
        busOpen := todo.foldl openStep s.busOpen } := by
  induction todo with
  | nil => intro s before got hn hp hs hl; cases s; simp_all [driveFrom, bytesFrom, wireFrom]
  | cons x xs ih =>
    intro s before got hn hp hs hl
    have hx : SeqRun.next s.cfg.lit { name := n, pos := before.length, got := got } = some x := by
      simp [SeqRun.next, hn]
    have h1 : legalFrom s.busOpen [x] = true := by
      simp only [legalFrom, Bool.and_true] at hl ⊢
      exact (Bool.and_eq_true_iff.mp hl).1
    have h2 : legalFrom (openStep s.busOpen x) xs = true := by
      simp only [legalFrom] at hl
      exact (Bool.and_eq_true_iff.mp hl).2
    have hd : driveFrom d before.length (x :: xs) = driveStep (d before.length) x ++ driveFrom d (before.length + 1) xs := by
      simp [driveFrom, List.zipIdx_cons]
    rw [hd, runTurns_append, driveStep_run hp hs hx h1, andThen_next]
    have := ih { s with
        seq := some { name := n, pos := before.length + 1, got := got ++ byteOf (d before.length) x }
        wire := s.wire ++ [wireOf (d before.length) x]
        busOpen := openStep s.busOpen x } (before ++ [x]) (got ++ byteOf (d before.length) x)
      (by simp [hn]) hp (by simp) h2
    rw [List.length_append, List.length_singleton] at this
    rw [this]
    simp [wireFrom, bytesFrom, List.zipIdx_cons, List.foldl_cons]

/-- A whole sequence, entered with no frame open, driven to its end and returned. -/
theorem driveSequence_run (d : Nat → Ack × Byte) (n : SeqName) (s : State) (hp : s.pending = none)
    (hb : s.busOpen = false) (hs : s.seq = some { name := n, pos := 0, got := [] })
    (hl : legalFrom false (n.steps s.cfg.lit) = true) :
    runTurns (driveSequence s.cfg d n) s =
      finishSequence { name := n, pos := (n.steps s.cfg.lit).length, got := bytesFrom d 0 (n.steps s.cfg.lit) }
        { s with
          seq := some { name := n, pos := (n.steps s.cfg.lit).length, got := bytesFrom d 0 (n.steps s.cfg.lit) }
          wire := s.wire ++ wireFrom d 0 (n.steps s.cfg.lit)
          busOpen := (n.steps s.cfg.lit).foldl openStep false } := by
  have h := driveFrom_run d n (n.steps s.cfg.lit) s [] [] rfl hp hs (by rw [hb]; exact hl)
  simp only [List.nil_append, List.length_nil] at h
  unfold driveSequence driveSteps
  rw [runTurns_append, show ((n.steps s.cfg.lit).zipIdx.map fun (x, j) => driveStep (d j) x).flatten
    = driveFrom d 0 (n.steps s.cfg.lit) from rfl, h, andThen_next]
  have hf : ∀ o : Out, andThen o (fun s => .next s) = o := by intro o; cases o <;> rfl
  simp [runTurns, takeTurn, stepForeground, stepSequence, SeqRun.next, hf, hb, hp]

/-- The three sequences find BUS_OPEN as each of their steps requires (R160). -/
theorem steps_legal (n : SeqName) : legalFrom false (n.steps {}) = true := by
  cases n <;> decide

/-- The three sequences end with no frame open (R160). -/
theorem steps_close (n : SeqName) : (n.steps {}).foldl openStep false = false := by
  cases n <;> decide

/-- The same for the literals of any configuration that R8 admits. -/
theorem steps_legal_of_ok {c : Config} (h : c.Ok) (n : SeqName) : legalFrom false (n.steps c.lit) = true := by
  rw [h.lit_default]
  exact steps_legal n

theorem steps_close_of_ok {c : Config} (h : c.Ok) (n : SeqName) : (n.steps c.lit).foldl openStep false = false := by
  rw [h.lit_default]
  exact steps_close n

end Sys2Proof.Machine
end

