-- ==== Sys2Proof/Laws/Foreground.lean ====
section
/-!
SUPPORT. What an instruction or a foreground step can do to the scheduler's half (10_state.md R44): one of its four foreground
operations, or nothing. Provers cite these instead of splitting exec and stepHost again.
-/

namespace Sys2Proof.Machine

/-- The scheduler's half and the configuration are the same in two states. -/
structure SameScheduler (s t : State) : Prop where
  cfg    : t.cfg = s.cfg
  target : t.target = s.target
  phase  : t.phase = s.phase
  out    : t.out = s.out
  ie     : t.ie = s.ie
  armed  : t.armed = s.armed
  cmp    : t.cmp = s.cmp
  tick   : t.tick = s.tick
  pulse  : t.pulse = s.pulse

namespace SameScheduler

theorem refl (s : State) : SameScheduler s s := ⟨rfl, rfl, rfl, rfl, rfl, rfl, rfl, rfl, rfl⟩

theorem trans {s t u : State} (a : SameScheduler s t) (b : SameScheduler t u) : SameScheduler s u :=
  ⟨b.1.trans a.1, b.2.trans a.2, b.3.trans a.3, b.4.trans a.4, b.5.trans a.5, b.6.trans a.6, b.7.trans a.7, b.8.trans a.8,
    b.9.trans a.9⟩

theorem setPos {s t : State} (h : SameScheduler s t) (p : HostPos) : SameScheduler s (t.setPos p) :=
  h.trans ⟨rfl, rfl, rfl, rfl, rfl, rfl, rfl, rfl, rfl⟩

end SameScheduler

/-! ### The bus half leaves the scheduler alone (20_memory.md R82) -/

theorem issue_sameScheduler {p : Prim} {s t : State} (h : issue p s = .next t) : SameScheduler s t := by
  obtain ⟨_, _, rfl⟩ := issue_eq_next h
  exact ⟨rfl, rfl, rfl, rfl, rfl, rfl, rfl, rfl, rfl⟩

theorem enterSequence_sameScheduler {n : SeqName} {s t : State} (h : enterSequence n s = .next t) : SameScheduler s t := by
  obtain ⟨_, _, rfl⟩ := enterSequence_eq_next h
  exact ⟨rfl, rfl, rfl, rfl, rfl, rfl, rfl, rfl, rfl⟩

theorem settle_sameScheduler {s t : State} (h : settle s = .next t) : SameScheduler s t := by
  obtain ⟨_, rfl⟩ := settle_eq_next h
  exact ⟨rfl, rfl, rfl, rfl, rfl, rfl, rfl, rfl, rfl⟩

theorem stepSequence_sameScheduler {run : SeqRun} {s t : State} (h : stepSequence run s = .next t) : SameScheduler s t := by
  obtain ⟨p, _, _, _, rfl⟩ | ⟨_, _, rfl⟩ | ⟨_, hf⟩ := stepSequence_eq_next h
  · exact ⟨rfl, rfl, rfl, rfl, rfl, rfl, rfl, rfl, rfl⟩
  · exact ⟨rfl, rfl, rfl, rfl, rfl, rfl, rfl, rfl, rfl⟩
  · obtain ⟨_, rfl⟩ | ⟨_, v, _, rfl⟩ := finishSequence_eq_next hf <;> exact ⟨rfl, rfl, rfl, rfl, rfl, rfl, rfl, rfl, rfl⟩

theorem complete_sameScheduler (a : Ack) (v : Byte) (s : State) : SameScheduler s (complete a v s) := by
  rw [complete_eq]
  exact ⟨rfl, rfl, rfl, rfl, rfl, rfl, rfl, rfl, rfl⟩

theorem transfer_sameScheduler {p : Prim} {a : Ack} {v : Byte} {s t : State} (h : transfer p a v s = .next t) :
    SameScheduler s t := by
  obtain ⟨u, hu, rfl⟩ := transfer_eq_next h
  refine SameScheduler.trans ?_ (complete_sameScheduler a v u)
  obtain ⟨_, rfl⟩ | ⟨_, _, _, _, hs⟩ | ⟨_, hi⟩ := putInFlight_eq_next hu
  · exact .refl _
  · exact stepSequence_sameScheduler hs
  · exact issue_sameScheduler hi

theorem transferSent_sameScheduler {b : Byte} {s t : State} (h : transferSent b s = .next t) : SameScheduler s t := by
  obtain ⟨u, hu, rfl⟩ := mapNext_eq_next h
  exact (transfer_sameScheduler hu).trans ⟨rfl, rfl, rfl, rfl, rfl, rfl, rfl, rfl, rfl⟩

theorem transferAllSent_sameScheduler {l : List Byte} {s t : State} (h : transferAllSent l s = .next t) :
    SameScheduler s t := by
  induction l generalizing s with
  | nil => cases h; exact .refl _
  | cons b l ih =>
    obtain ⟨u, hu, hv⟩ := andThen_eq_next h
    exact (transferSent_sameScheduler hu).trans (ih hv)

/-! ### Instructions -/

/-- An instruction other than the event does one of the scheduler's four foreground operations, or leaves its half alone. -/
theorem exec_eq_next {i : Instr} {s t : State} (hi : i ≠ .compareMatch) (h : exec i s = .next t) :
    (i = .schedInit ∧ initScheduler s = .next t) ∨ (i = .schedEnable ∧ enableScheduler s = .next t) ∨
    (∃ c w, i = .setTarget c w ∧ storeTarget c w s = .next t) ∨ (i = .clrTick ∧ t = s.setTick 0) ∨
    (i ≠ .schedInit ∧ i ≠ .schedEnable ∧ i ≠ .clrTick ∧ (∀ c w, i ≠ .setTarget c w) ∧ SameScheduler s t) := by
  cases i <;> simp only [exec] at h
  case compareMatch => exact absurd rfl hi
  case schedInit => exact .inl ⟨rfl, (whenIdle_eq_next h).2⟩
  case schedEnable => exact .inr (.inl ⟨rfl, (whenIdle_eq_next h).2⟩)
  case setTarget => exact .inr (.inr (.inl ⟨_, _, rfl, (whenIdle_eq_next h).2⟩))
  case clrTick =>
    have hk := (whenIdle_eq_next h).2
    cases hk
    exact .inr (.inr (.inr (.inl ⟨rfl, rfl⟩)))
  all_goals refine .inr (.inr (.inr (.inr ⟨by simp, by simp, by simp, by simp, ?_⟩)))
  case start | stop | writeByte | readByte => exact issue_sameScheduler (whenIdle_eq_next h).2
  case delaySettle => exact settle_sameScheduler (whenIdle_eq_next h).2
  case sensorInit | requestSample | readSample => exact enterSequence_sameScheduler (whenIdle_eq_next h).2
  case waitStart | cycle =>
    obtain ⟨u, hu, rfl⟩ := mapNext_eq_next (whenIdle_eq_next h).2
    exact (enterSequence_sameScheduler hu).setPos _
  case wireByte =>
    unfold execWireByte at h
    split at h
    · split at h
      · exact transfer_sameScheduler h
      · cases h
    · split at h
      · exact transfer_sameScheduler h
      · cases h
    all_goals cases h
  case wireAddrW | wireAddrR => exact transferSent_sameScheduler h
  case wireInit1 | wireInit2 | wireTrig => exact transferAllSent_sameScheduler h
  case wireSample =>
    unfold execWireSample at h
    obtain ⟨_, h1, h⟩ := andThen_eq_next h
    obtain ⟨_, h2, h⟩ := andThen_eq_next h
    obtain ⟨_, h3, h⟩ := andThen_eq_next h
    obtain ⟨_, h4, h⟩ := andThen_eq_next h
    obtain ⟨_, h5, h⟩ := andThen_eq_next h
    exact ((((((transfer_sameScheduler h1).trans (transfer_sameScheduler h2)).trans (transfer_sameScheduler h3)).trans
      (transfer_sameScheduler h4)).trans (transfer_sameScheduler h5)).trans (transfer_sameScheduler h))
  case wireButtons => exact transfer_sameScheduler h
  all_goals
    have hk := (whenIdle_eq_next h).2
    cases hk
    exact ⟨rfl, rfl, rfl, rfl, rfl, rfl, rfl, rfl, rfl⟩

/-! ### The reference host -/

/-- A step of the reference host does the scheduler operation of its position, or leaves the scheduler's half alone. -/
theorem stepHost_eq_next {s t : State} (h : stepHost s = .next t) :
    (s.pos = .bootSched ∧ ∃ u, initScheduler s = .next u ∧ SameScheduler u t) ∨
    (s.pos = .waitEnable ∧ ∃ u, enableScheduler s = .next u ∧ SameScheduler u t) ∨
    (∃ k, s.pos = .cycleStore k ∧ ∃ u, storeTarget k.val s.widths[k] s = .next u ∧ SameScheduler u t) ∨
    (s.pos = .cycleClear ∧ SameScheduler (s.setTick 0) t) ∨
    (s.pos ≠ .bootSched ∧ s.pos ≠ .waitEnable ∧ s.pos ≠ .cycleClear ∧ (∀ k, s.pos ≠ .cycleStore k) ∧ SameScheduler s t) := by
  unfold stepHost at h
  cases hpos : s.pos <;> simp only [hpos] at h
  case bootSched =>
    obtain ⟨u, hu, rfl⟩ := mapNext_eq_next h
    exact .inl ⟨rfl, u, hu, (SameScheduler.refl _).setPos _⟩
  case waitEnable =>
    obtain ⟨u, hu, rfl⟩ := mapNext_eq_next h
    exact .inr (.inl ⟨rfl, u, hu, (SameScheduler.refl _).setPos _⟩)
  case cycleStore k =>
    obtain ⟨u, hu, rfl⟩ := mapNext_eq_next h
    exact .inr (.inr (.inl ⟨k, rfl, u, hu, (SameScheduler.refl _).setPos _⟩))
  case cycleClear =>
    cases h
    exact .inr (.inr (.inr (.inl ⟨rfl, (SameScheduler.refl _).setPos _⟩)))
  all_goals refine .inr (.inr (.inr (.inr ⟨by simp, by simp, by simp, by simp, ?_⟩)))
  case ready p =>
    have other : ∀ i : Instr, i ≠ .compareMatch → i ≠ .schedInit → i ≠ .schedEnable → i ≠ .clrTick →
        (∀ c w, i ≠ .setTarget c w) → exec i s = .next t → SameScheduler s t := by
      intro i h0 h1 h2 h3 h4 hx
      obtain ⟨e, _⟩ | ⟨e, _⟩ | ⟨c, w, e, _⟩ | ⟨e, _⟩ | ⟨_, _, _, _, hs⟩ := exec_eq_next h0 hx
      · exact absurd e h1
      · exact absurd e h2
      · exact absurd e (h4 c w)
      · exact absurd e h3
      · exact hs
    cases p
    · exact other .boot (by simp) (by simp) (by simp) (by simp) (by simp) h
    · exact other .waitStart (by simp) (by simp) (by simp) (by simp) (by simp) h
    · exact other .cycle (by simp) (by simp) (by simp) (by simp) (by simp) h
  case bootSensor =>
    obtain ⟨u, hu, rfl⟩ := mapNext_eq_next h
    exact (enterSequence_sameScheduler hu).setPos _
  case waitTest =>
    unfold testStart at h
    split at h
    · cases h; exact (SameScheduler.refl _).setPos _
    · exact enterSequence_sameScheduler h
  case cycleJudge =>
    unfold judgeSample at h
    split at h
    · exact enterSequence_sameScheduler h
    · cases h; exact (SameScheduler.refl _).setPos _
  case cycleRezero =>
    cases h
    unfold testRezero
    split <;> exact (SameScheduler.refl _).setPos _
  case cyclePace =>
    cases h
    unfold pollTick
    split <;> exact ⟨rfl, rfl, rfl, rfl, rfl, rfl, rfl, rfl, rfl⟩
  all_goals
    cases h
    exact ⟨rfl, rfl, rfl, rfl, rfl, rfl, rfl, rfl, rfl⟩

end Sys2Proof.Machine
end

