-- ==== Sys2Proof/Laws/PerInstr.lean ====
section
/-!
SUPPORT. The family RoundTrip of LAWS.json: for each instruction, decoding the word the encoder gives it gives it back.
-/

namespace Sys2Proof.Laws.RoundTrip

/-- A well-formed instruction is what its own word decodes to, with the document's literals (R7). -/
def Statement (i : Instr) : Prop := i.wellFormed = true → decode {} (encode {} i) = .ok i

theorem busInit : Statement .busInit := by
  intro _; rfl

theorem start : Statement .start := by
  intro _; rfl

theorem stop : Statement .stop := by
  intro _; rfl

theorem writeByte (b : Byte) : Statement (.writeByte b) := by
  intro _; simp [encode, decode, decodeCommand, Except.map]

theorem readByte (k : Bool) : Statement (.readByte k) := by
  intro _; simp [encode, decode, decodeCommand, Except.map]

theorem delaySettle : Statement .delaySettle := by
  intro _; rfl

theorem sensorInit : Statement .sensorInit := by
  intro _; rfl

theorem requestSample : Statement .requestSample := by
  intro _; rfl

theorem readSample : Statement .readSample := by
  intro _; rfl

theorem schedInit : Statement .schedInit := by
  intro _; rfl

theorem schedEnable : Statement .schedEnable := by
  intro _; rfl

theorem setTarget (i : Nat) (w : Nat) : Statement (.setTarget i w) := by
  intro h
  have hi : i < numChannels := by simpa [Instr.wellFormed] using h
  simp [encode, decode, decodeCommand, channelOperand_of_lt hi, Except.map, Except.bind]

theorem getTick : Statement .getTick := by
  intro _; rfl

theorem clrTick : Statement .clrTick := by
  intro _; rfl

theorem compareMatch : Statement .compareMatch := by
  intro _; rfl

theorem clamp (v : Int) : Statement (.clamp v) := by
  intro _; rfl

theorem scale (raw : Byte) (zero : Byte) : Statement (.scale raw zero) := by
  intro _; simp [encode, decode, decodeCommand, Except.map, Except.bind]

theorem mode (btn : Code2) (dx : Int) (dy : Int) : Statement (.mode btn dx dy) := by
  intro _; simp [encode, decode, decodeCommand, Except.map]

theorem map (dx : Int) (dy : Int) (m : Mode) : Statement (.map dx dy m) := by
  intro _; simp [encode, decode, decodeCommand, Except.map]

theorem boot : Statement .boot := by
  intro _; rfl

theorem waitStart : Statement .waitStart := by
  intro _; rfl

theorem cycle : Statement .cycle := by
  intro _; rfl

theorem wireByte (b : Byte) (a : Bool) : Statement (.wireByte b a) := by
  intro _; simp only [encode, decode, decodeWire, takeByte_byteBits]

theorem wireAddrW : Statement .wireAddrW := by
  intro _; rfl

theorem wireAddrR : Statement .wireAddrR := by
  intro _; rfl

theorem wireInit1 : Statement .wireInit1 := by
  intro _; rfl

theorem wireInit2 : Statement .wireInit2 := by
  intro _; rfl

theorem wireTrig : Statement .wireTrig := by
  intro _; rfl

theorem wireSample (x : Byte) (y : Byte) (ax : Byte) (ay : Byte) (az : Byte) (r : BitVec 6) (btn : Code2) : Statement (.wireSample x y ax ay az r btn) := by
  intro _
  have h := takeBytes_flatMap [x, y, ax, ay, az, buttonByte r btn]
  simp only [List.flatMap_cons, List.flatMap_nil, List.append_nil, ← List.append_assoc] at h
  simp only [encode, decode, decodeWire]
  rw [show takeBytes sampleBytes _ = _ from h]
  simp

theorem wireButtons (r : BitVec 6) (btn : Code2) : Statement (.wireButtons r btn) := by
  intro _
  have h := takeBytes_flatMap [buttonByte r btn]
  simp only [List.flatMap_cons, List.flatMap_nil, List.append_nil] at h
  simp only [encode, decode, decodeWire]
  rw [show takeBytes 1 _ = _ from h]
  simp

end Sys2Proof.Laws.RoundTrip
end

