-- ==== Sys2Proof/Tests/Slice0.lean ====
section
/-!
SUPPORT. Tests. Expected results are taken from the spec: the tables of 30_encoding.md, the vectors of 95_test_vectors.md
(named at each test), and hand calculation from the rules. Then, for every statement with hypotheses, a witness that meets
them (`test_witness_…`), and each of its clauses at a boundary value.
-/

namespace Sys2Proof.Tests

open Sys2Proof Sys2Proof.Machine

/-! ### Helpers -/

/-- Power-on with the illustrative configuration EX1 (95_test_vectors.md section 0). -/
def ex : State := State.powerOn Config.ex1

/-- The same with a frame open. -/
def opened : State := ex.setBusOpen true

/-- The same with the timer armed and the interrupt enabled. -/
def running : State := { ex with armed := true, ie := true }

/-- A field of the next state, if there is one. -/
def field {α : Type} (o : Out) (f : State → α) : Option α :=
  match o with
  | .next t => some (f t)
  | _       => none

/-- The reason of a refusal, if there is one. -/
def reason (o : Out) : Option Refusal :=
  match o with
  | .refused r => some r
  | _          => none

/-- A draw for every transfer: ACK and the byte 0x80. -/
def draw80 : Nat → Ack × Byte := fun _ => (.ack, 0x80)

/-- The draws of 95_test_vectors.md V-SC-2: ACK everywhere, and the bytes 8A 80 7F 80 90 FE at steps 7 to 12. -/
def drawSC2 : Nat → Ack × Byte := fun j =>
  (.ack, match j with
    | 7 => 0x8A | 8 => 0x80 | 9 => 0x7F | 10 => 0x80 | 11 => 0x90 | 12 => 0xFE | _ => 0)

/-- The instruction a word decodes to, if any. -/
def read (f : Fetch) : Option Instr := (decode {} f).toOption

/-! ### WellFormed: each check refuses an ill-formed term -/

theorem test_wellFormed_channel_four_refused : (Instr.setTarget 4 187).wellFormed = false := by decide
theorem test_wellFormed_channel_three_admitted : (Instr.setTarget 3 187).wellFormed = true := by decide
theorem test_decode_channel_four_refused : decode {} (.command 0x22 [4, 187]) = .error .operandRange := by decide

/-! ### Decode: a word of every row, written out from 30_encoding.md R110, R111, R90, R94, R96, R98, R99 -/

theorem test_decode_bus :
    read (.command 0x00 []) = some .busInit ∧ read (.command 0x01 []) = some .start ∧ read (.command 0x02 []) = some .stop ∧
    read (.command 0x03 [0xA4]) = some (.writeByte 0xA4) ∧ read (.command 0x04 [1]) = some (.readByte true) ∧
    read (.command 0x04 [0]) = some (.readByte false) := by decide

theorem test_decode_sensor :
    read (.command 0x10 []) = some .delaySettle ∧ read (.command 0x11 []) = some .sensorInit ∧
    read (.command 0x12 []) = some .requestSample ∧ read (.command 0x13 []) = some .readSample := by decide

theorem test_decode_scheduler :
    read (.command 0x20 []) = some .schedInit ∧ read (.command 0x21 []) = some .schedEnable ∧
    read (.command 0x22 [2, 0x00CF]) = some (.setTarget 2 207) ∧ read (.command 0x23 []) = some .getTick ∧
    read (.command 0x24 []) = some .clrTick ∧ read (.command 0x2F []) = some .compareMatch := by decide

theorem test_decode_host :
    read (.command 0x30 [-1]) = some (.clamp (-1)) ∧ read (.command 0x31 [138, 128]) = some (.scale 138 128) ∧
    read (.command 0x32 [2, 20, -5]) = some (.mode 2 20 (-5)) ∧ read (.command 0x33 [20, 0, 2]) = some (.map 20 0 .rotate) ∧
    read (.command 0x34 []) = some .boot ∧ read (.command 0x35 []) = some .waitStart ∧
    read (.command 0x36 []) = some .cycle := by decide

/-- The address bytes A4 = 1010 0100 and A5 = 1010 0101 (R94), and a transfer of 0x01, whose 1 comes last (V-BT-8). -/
theorem test_decode_wire_bytes :
    read (.wire .address [true, false, true, false, false, true, false, false]) = some .wireAddrW ∧
    read (.wire .address [true, false, true, false, false, true, false, true]) = some .wireAddrR ∧
    read (.wire .transfer [false, false, false, false, false, false, false, true, true]) = some (.wireByte 0x01 true) ∧
    read (.wire .buttons [true, true, true, true, true, true, true, false]) = some (.wireButtons 0b111111 0b10) := by decide

/-- The payloads 1111_0000 0101_0101, 1111_1011 0000_0000 and 0000_0000 (R96). -/
theorem test_decode_wire_payloads :
    read (.wire .payload [true, true, true, true, false, false, false, false, false, true, false, true, false, true, false, true])
      = some .wireInit1 ∧
    read (.wire .payload [true, true, true, true, true, false, true, true, false, false, false, false, false, false, false, false])
      = some .wireInit2 ∧
    read (.wire .payload [false, false, false, false, false, false, false, false]) = some .wireTrig := by decide

/-- The sample 8A 80 7F 80 90 FE (R98, V-SC-2). -/
theorem test_decode_wire_sample :
    read (.wire .sample
      [true, false, false, false, true, false, true, false, true, false, false, false, false, false, false, false,
       false, true, true, true, true, true, true, true, true, false, false, false, false, false, false, false,
       true, false, false, true, false, false, false, false, true, true, true, true, true, true, true, false])
      = some (.wireSample 0x8A 0x80 0x7F 0x80 0x90 0b111111 0b10) := by decide

/-- The decoder and the encoder use the named literals (R7): with another ADDR_W, the byte 0x10 is the address byte. -/
theorem test_decode_uses_the_literals :
    decode { addrW := 0x10 } (.wire .address [false, false, false, true, false, false, false, false]) = .ok .wireAddrW ∧
    decode { addrW := 0x10 } (.wire .address [true, false, true, false, false, true, false, false]) = .error .unknownAddress ∧
    encode { trig := [0x01] } .wireTrig = .wire .payload [false, false, false, false, false, false, false, true] := by decide

theorem test_decode_refusals :
    decode {} (.command 0x05 []) = .error .reservedOp ∧ decode {} (.command 0x37 []) = .error .reservedOp ∧
    decode {} (.command 0x00 [0]) = .error .operandCount ∧ decode {} (.command 0x03 [256]) = .error .operandRange ∧
    decode {} (.wire .transfer []) = .error .patternLength ∧
    decode {} (.wire .address [true, false, true, false, false, true, true, false]) = .error .unknownAddress ∧
    decode {} (.wire .payload [false, false, false, false, false, false, false, true]) = .error .unknownPayload := by decide

/-- The words of spec/opcode_table.json: an operation number, the address byte A5, F0 55 and FB 00 as numbers. -/
theorem test_table_words :
    decodeTableWord 8 0x21 = some .schedEnable ∧ decodeTableWord 8 0x31 = some (.scale 0 0) ∧
    decodeTableWord 8 0xA5 = some .wireAddrR ∧ decodeTableWord 16 0xF055 = some .wireInit1 ∧
    decodeTableWord 16 0xFB00 = some .wireInit2 ∧ decodeTableWord 16 0x149 = some (.wireByte 0xA4 true) := by decide

theorem test_encode_bits :
    encode {} (.wireByte 0xA4 true) = .wire .transfer [true, false, true, false, false, true, false, false, true] ∧
    encode {} (.scale 140 100) = .command 0x31 [140, 100] ∧ encode {} (.map 1 (-2) .neutral) = .command 0x33 [1, -2, 0] := by decide

/-! ### Bus Transport (V-BT-1, 4, 12, 14, 15, 16) -/

theorem test_busInit_closes : field (exec .busInit opened) State.busOpen = some false := by decide
theorem test_start_issues : field (exec .start ex) (fun t => (t.pending, t.wire)) = some (some .start, []) := by decide
theorem test_start_repeated_refused : reason (exec .start opened) = some .busOrder := by decide
theorem test_stop_closed_refused : reason (exec .stop ex) = some .busOrder := by decide
theorem test_stop_completes :
    field (runTurns [.present (.command 0x02 []), .shiftComplete .nak 0] opened) (fun t => (t.busOpen, t.wire))
      = some (false, [.stop]) := by decide
theorem test_writeByte_completes :
    field (runTurns [.present (.command 0x03 [0xA4]), .shiftComplete .nak 0] opened) (fun t => (t.pending, t.wire, t.ret))
      = some (none, [.sent 0xA4 .nak], .ack .nak) := by decide
theorem test_writeByte_pending_refused :
    reason (exec (.writeByte 1) (opened.setPending (some (.write 0x55)))) = some .primitivePending := by decide
theorem test_readByte_completes :
    field (runTurns [.present (.command 0x04 [0]), .shiftComplete .ack 0x03] opened) (fun t => (t.wire, t.ret))
      = some ([.received 0x03 .nak], .byte 0x03) := by decide
theorem test_readByte_closed_refused : reason (exec (.readByte true) ex) = some .busOrder := by decide

/-! ### Motion Sensor Client (V-SC-6, V-SC-7, V-SC-4, V-SC-2) -/

theorem test_delaySettle : field (exec .delaySettle ex) State.wire = some [.delay] := by decide
theorem test_delaySettle_open_refused : reason (exec .delaySettle opened) = some .delayInFrame := by decide
theorem test_sequence_lengths :
    (SeqName.steps {} .sensorInit).length = 11 ∧ (SeqName.steps {} .readSample).length = 9 ∧
    (SeqName.steps {} .requestSample).length = 14 := by decide
theorem test_sensorInit_open_refused : reason (exec .sensorInit opened) = some .busOrder := by decide
theorem test_button_mask :
    [0x00, 0x01, 0x02, 0x03, 0xFC, 0xFD, 0xFE, 0xFF, 0x57, 0xA8].map (buttonCode {}) = [0, 1, 2, 3, 0, 1, 2, 3, 3, 0] := by decide
theorem test_requestSample_returns :
    field (andThen (exec .requestSample ex) (runTurns (driveSequence ex.cfg drawSC2 .requestSample))) (fun t => (t.sample, t.busOpen))
      = some ({ x := 138, y := 128, ax := 0x7F, ay := 0x80, az := 0x90, btn := 0b10 }, false) := by decide
theorem test_readSample_ack_pattern :
    (SeqName.steps {} .readSample).drop 6 = [.prim (.read true), .prim (.read false), .prim .stop] := by decide

/-! ### Pulse Scheduler (V-PS-1, 3, 4, 5, 9, 10, 11, 13, 14, 15, 17, 18, 19) -/

theorem test_schedInit_arms : field (exec .schedInit ex) (fun t => (t.armed, t.ie, t.phase)) = some (true, false, .gap) := by decide
theorem test_schedInit_enabled_refused : reason (exec .schedInit running) = some .schedulerEnabled := by decide
theorem test_schedEnable_sets : field (exec .schedEnable { ex with armed := true }) State.ie = some true := by decide
theorem test_schedEnable_unarmed_refused : reason (exec .schedEnable ex) = some .timerNotArmed := by decide
theorem test_setTarget_stores : field (exec (.setTarget 2 207) ex) State.target = some #v[187, 187, 207, 187] := by decide
theorem test_setTarget_bounds_refused :
    [Instr.setTarget 2 250, .setTarget 2 124, .setTarget 4 187].map (fun i => reason (exec i ex))
      = [some .widthOutOfRange, some .widthOutOfRange, some .noSuchChannel] := by decide
theorem test_getTick_returns : field (exec .getTick (ex.setTick 7)) (fun t => (t.ret, t.tick)) = some (.tick 7, 7) := by decide
theorem test_clrTick_clears : field (exec .clrTick (ex.setTick 20)) State.tick = some 0 := by decide
theorem test_compareMatch_disabled : field (exec .compareMatch { ex with armed := true }) State.pulse = some [] := by decide
theorem test_compareMatch_wraps :
    field (exec .compareMatch { running with phase := .p3, tick := 255 }) (fun t => (t.phase, t.tick, t.cmp, t.pulse))
      = some (.gap, 0, 1875, [{ phase := .gap, count := 1875 }]) := by decide
theorem test_compareMatch_enters_p3 :
    field (exec .compareMatch { running with phase := .p2, target := #v[187, 150, 249, 125] }) (fun t => (t.out, t.cmp))
      = some (#v[.inactive, .inactive, .inactive, .active], 125) := by decide

/-! ### Reference host (95_test_vectors.md section 2.5 and P4 to P6) -/

theorem test_clamp : [-1000000, 124, 125, 187, 249, 250].map (clampWidth Config.ex1) = [125, 125, 125, 187, 249, 249] := by decide
theorem test_clamp_returns : field (exec (.clamp 314) ex) State.ret = some (.width 249) := by decide +kernel
theorem test_scale_rounds_to_zero :
    scaleStick 127 128 = 0 ∧ scaleStick 123 128 = -2 ∧ scaleStick 109 128 = -9 ∧ scaleStick 0 255 = -127 := by decide
theorem test_scale_returns : field (exec (.scale 140 100) ex) State.ret = some (.displacement 20) := by decide
theorem test_mode :
    [((3 : Code2), (9 : Int), (-9 : Int)), (3, 10, 0), (2, 0, 40), (1, 30, 0), (0, 50, 50)].map
      (fun (b, dx, dy) => field (exec (.mode b dx dy) ex) State.ret)
      = [some (.mode .neutral), some (.mode .translate), some (.mode .rotate), some (.mode .translate), some (.mode .neutral)] := by
  decide
theorem test_map_translate_clamped : field (exec (.map 40 30 .translate) ex) State.ret = some (.widths #v[249, 197, 177, 125]) := by decide
theorem test_map_rotate_small_dx : field (exec (.map 5 40 .rotate) ex) State.ret = some (.widths #v[192, 192, 192, 192]) := by decide
theorem test_boot_begins : field (exec .boot opened) (fun t => (t.busOpen, t.pos)) = some (false, .bootSensor) := by decide
theorem test_waitStart_polls : field (exec .waitStart ex) (fun t => (t.seq, t.pos))
    = some (some { name := .requestSample, pos := 0, got := [] }, .waitTest) := by decide
theorem test_cycle_polls : field (exec .cycle ex) (fun t => (t.seq, t.pos))
    = some (some { name := .requestSample, pos := 0, got := [] }, .cycleJudge) := by decide

/-- The host at the sentinel test, a sample with the code C (1 in EX1): CAL is captured in a step of its own, between which and
the next an event may fall (20_memory.md R75). -/
theorem test_cycle_steps_are_single :
    field (runTurns [.foreground, .foreground, .timer, .foreground]
        { running with pos := .cycleJudge, sample := { x := 150, y := 90, ax := 0, ay := 0, az := 0, btn := 1 } })
      (fun t => (t.pos, t.calX, t.calY, t.phase)) = some (.cycleScaleX, 150, 90, .p0) := by decide

/-! ### Patterns on the wire -/

theorem test_wireByte_other_refused : reason (exec (.wireByte 0xA4 true) (opened.setPending (some (.write 0xA5)))) = some .otherTransfer := by
  decide
/-- A read in flight; and READ_SAMPLE, its START completed, where the pattern of its address byte issues and completes it. -/
theorem test_wireByte_completes :
    field (exec (.wireByte 0x80 true) (opened.setPending (some (.read false)))) State.wire = some [.received 0x80 .nak] ∧
    field (exec (.wireByte 0xA5 true) (opened.setSeq (some { name := .readSample, pos := 1, got := [] })))
      (fun t => (t.seq, t.wire, t.pending))
      = some (some { name := .readSample, pos := 2, got := [] }, [.sent 0xA5 .nak], none) := by decide
theorem test_wireSample_goes : field (exec (.wireSample 1 2 3 4 5 0 0b10) opened) (fun t => t.wire.getLast?)
    = some (some (.received 0b10 .nak)) := by decide
theorem test_wireButtons_goes : field (exec (.wireButtons 0b111111 0b01) opened) State.ret = some (.byte 0xFD) := by decide
theorem test_wireAddr_outside_frame_refused : reason (exec .wireAddrW ex) = some .busOrder ∧ reason (exec .wireAddrR ex) = some .busOrder := by
  decide
theorem test_wirePayload_outside_frame_refused :
    reason (exec .wireInit1 ex) = some .busOrder ∧ reason (exec .wireInit2 ex) = some .busOrder ∧
    reason (exec .wireTrig ex) = some .busOrder := by decide

/-! ### The step, from reset -/

theorem test_reset_runs_a_table_word : step (State.reset.withFetchWord 8 0x01) = exec .start State.reset := by rfl
theorem test_reset_runs_a_wire_word : step (State.reset.withFetchWord 8 0xA5) = exec .wireAddrR State.reset := by rfl

/-! ### Witnesses: states and operands that meet the hypotheses of the statements, clause by clause -/

/-- Power-on with EX1, and a state in the middle of a sequence, meet the invariant. -/
theorem test_ex_inv : ex.Inv := by
  refine ⟨Config.ex1_ok, Config.ex1_ok.center_range, by decide, by decide, by decide, fun _ => ⟨rfl, rfl⟩, ?_, ?_,
    ⟨?_, .nil, ?_, fun _ => rfl⟩, ?_, ?_, fun _ h => absurd rfl (h .boot), ?_, ?_⟩ <;> intro _ h <;> cases h

/-- READ_SAMPLE entered, its START not yet issued. -/
def inSequence : State := ex.setSeq (some { name := .readSample, pos := 0, got := [] })

theorem test_inSequence_inv : inSequence.Inv := by
  refine ⟨Config.ex1_ok, Config.ex1_ok.center_range, by decide, by decide, by decide, fun _ => ⟨rfl, rfl⟩, ?_, ?_,
    ⟨?_, .nil, ?_, fun _ => rfl⟩, ?_, ?_, (fun h => nomatch h), fun _ _ => .inl ⟨.boot, rfl⟩, ?_⟩ <;> intro _ h <;> cases h
  exact ⟨Nat.zero_le _, (fun _ h => nomatch h), by decide, by decide⟩

/-- A host in a procedure at position `p`, the block running. -/
def hostAt (p : HostPos) : State := { running with pos := p }

theorem test_witness_StepRunsPresentedWord :
    { ex with script := [.present (.command 0x01 [])] }.script = .present (.command 0x01 []) :: [] ∧
    decode ex.cfg.lit (.command 0x01 []) = .ok .start ∧ decode ex.cfg.lit (.command 0xFF []) = .error .reservedOp := by decide
theorem test_witness_StepTakesTheOldestTurn :
    { ex with script := [.foreground] }.script = .foreground :: [] ∧ { ex with script := [.timer] }.script = .timer :: [] ∧
    { ex with script := [.shiftComplete .nak 7] }.script = .shiftComplete .nak 7 :: [] ∧ ex.script = [] := by decide
theorem test_witness_FetchedWordRunsInTheNextStep : ex.cfg.lit = {} ∧ decodeTableWord 8 0x36 = some .cycle := by decide
theorem test_witness_DecodeOfEncode : (Instr.setTarget 3 249).wellFormed = true ∧ (Instr.wireByte 0xFF true).wellFormed = true := by decide
theorem test_witness_DecodedWordIsTheEncoding : decode {} (.command 0x22 [3, 249]) = .ok (.setTarget 3 249) := by decide
theorem test_witness_ReservedOperationNumbersRefused : (0x05 : Byte) ∉ Op.all.map Op.number ∧ (0xFF : Byte) ∉ Op.all.map Op.number := by
  decide
theorem test_witness_bus : ex.atBoundary = true ∧ ex.busOpen = false ∧ opened.atBoundary = true ∧ opened.busOpen = true ∧
    (opened.setPending (some (.write 0x55))).pending = some (.write 0x55) := by decide
theorem test_witness_BytesGoMostSignificantBitFirst : ({ addrW := 0x01 } : Literals).addrW = 0x01 ∧
    ({ addrR := 0x80 } : Literals).addrR = 0x80 := by decide
/-- With the interrupt enabled and without. -/
theorem test_witness_StalledBusBlocksForegroundOnly : (running.setPending (some .start)).pending = some .start ∧
    (running.setPending (some .start)).interruptEnabled = true ∧ (ex.setPending (some (.read false))).pending = some (.read false) ∧
    (∀ t ∈ [Turn.foreground, .timer, .foreground], t = .foreground ∨ t = .timer) := by decide
theorem test_witness_sequences : ex.cfg.Ok ∧ ex.atBoundary = true ∧ ex.busOpen = false ∧ opened.cfg.Ok ∧ opened.atBoundary = true ∧
    opened.busOpen = true := ⟨Config.ex1_ok, by decide, by decide, Config.ex1_ok, by decide, by decide⟩
theorem test_witness_SampleReadUnaffectedByInterrupts : ex.cfg.Ok ∧ ex.atBoundary = true ∧ ex.busOpen = false ∧
    (.timer :: (driveSequence ex.cfg draw80 .readSample ++ [.timer])).filter (· != .timer) = driveSequence ex.cfg draw80 .readSample :=
  ⟨Config.ex1_ok, by decide, by decide, by decide⟩
theorem test_witness_RunningSequenceIsNeverRefused : inSequence.Inv ∧ inSequence.seq = some { name := .readSample, pos := 0, got := [] } :=
  ⟨test_inSequence_inv, rfl⟩
theorem test_witness_SchedInitArmsTheTimer : ex.atBoundary = true ∧ ex.ie = false ∧ running.atBoundary = true ∧ running.ie = true := by
  decide
/-- A step with the interrupt off that leaves the block inert, and one with it on. -/
theorem test_witness_SchedEnableSetsIe :
    (ex.atBoundary = true ∧ ex.armed = false ∧ ex.ie = false ∧ running.atBoundary = true ∧ running.armed = true ∧ running.ie = true) ∧
    (ex.out = Vector.replicate 4 .inactive ∧ ex.tick = 0 ∧ ex.pulse = [] ∧ step { ex with script := [.timer] } = .next ex) ∧
    step { running with script := [.foreground], pending := some .start } = .next { running with pending := some .start } :=
  ⟨by decide, ⟨by decide, by decide, by decide, rfl⟩, rfl⟩
theorem test_witness_SetTargetStoresTheWidth : ex.atBoundary = true ∧ ex.cfg.InRange 125 ∧ ex.cfg.InRange 249 ∧ 124 < ex.cfg.wMin ∧
    ex.cfg.wMax < 250 ∧ ex.target[(3 : Channel)] = 187 ∧ running.interruptEnabled = true ∧ running.phase.succ.channel = some 0 := by decide
theorem test_witness_GetTickReadsWithoutClearing : running.cfg.Ok ∧ running.atBoundary = true ∧ running.interruptEnabled = true ∧
    running.phase = .gap ∧ running.tick = 0 ∧ (running.setTick 250).atBoundary = true ∧
    (running.setTick 255).tick < 2 ^ (running.setTick 255).cfg.tickBits ∧
    (running.setTick 250).tick + 5 < 2 ^ (running.setTick 250).cfg.tickBits ∧
    (compareEvents 25 (running.setTick 250)).tick = 255 ∧ (compareEvents 5 (running.setTick 255)).tick = 0 :=
  ⟨Config.ex1_ok, by decide, by decide, by decide, by decide, by decide, by decide, by decide, by decide +kernel, by decide⟩
theorem test_witness_ClrTickClears : running.cfg.Ok ∧ running.atBoundary = true ∧ running.interruptEnabled = true ∧
    exec .compareMatch ex = .next ex := ⟨Config.ex1_ok, by decide, by decide, rfl⟩
theorem test_witness_CompareMatchIsTheHandler : running.armed = true ∧ running.ie = true ∧ running.phase.succ.channel = some 0 ∧
    { running with phase := .p2 }.phase.succ.channel = some 3 ∧ { running with phase := .p3 }.phase.succ = .gap := by decide
theorem test_witness_step_with_invariant : { ex with script := [.timer] }.Inv ∧ step { ex with script := [.timer] } = .next ex := by
  refine ⟨?_, rfl⟩
  have h := test_ex_inv
  exact ⟨h.config, h.targets, h.outputs, h.tickFits, h.armed, h.inert, h.pulses, h.compare,
    ⟨h.trace.first, h.trace.order, h.trace.last, h.trace.empty⟩, h.inFlight, (fun _ hr => nomatch hr), h.procedure,
    h.called, h.stored⟩
theorem test_witness_NthCompareMatch : (running.setTick 255).interruptEnabled = true ∧ (running.setTick 255).phase = .gap ∧
    (running.setTick 255).tick < 2 ^ (running.setTick 255).cfg.tickBits := by decide
theorem test_witness_FiveEventsMakeAFrame : running.interruptEnabled = true ∧ running.phase = .gap ∧
    ∀ i : Channel, running.cfg.InRange { running with target := #v[125, 249, 125, 249] }.target[i] := by decide
theorem test_witness_StoredWidthEmittedWithinOneFrame : running.atBoundary = true ∧ running.interruptEnabled = true ∧
    running.cfg.InRange 249 := by decide
/-- SCHED_ENABLE presented, and done by the reference host; SCHED_INIT; and an event that finds the interrupt off. -/
theorem test_witness_EnableBitsAreNeverCleared :
    exec .schedEnable { ex with armed := true } = .next { ex with armed := true, ie := true } ∧
    exec .schedInit ex = .next { ex with armed := true } ∧
    step { ex with armed := true, script := [.present (.command 0x21 [])] } = .next running ∧
    step { ex with armed := true, pos := .waitEnable, script := [.foreground] }
      = .next { running with pos := .waitLoop } ∧
    ¬(ex.ie = true ∧ ex.armed = true) := ⟨rfl, rfl, rfl, rfl, by decide⟩
/-- Each writer, presented and at its host position, and an instruction and a host step that write none of the scheduler. -/
theorem test_witness_ForegroundAccessRights :
    exec .schedInit (ex.setTick 7) = .next { ex with armed := true } ∧ exec .clrTick (ex.setTick 7) = .next ex ∧
    exec .schedEnable { ex with armed := true } = .next running ∧ exec (.setTarget 3 249) ex = .next (ex.setTarget 3 249) ∧
    exec .busInit opened = .next ex ∧
    stepForeground { ex with pos := .bootSched } = .next { ex with armed := true, pos := .bootLoop } ∧
    stepForeground ((hostAt .cycleClear).setTick 7) = .next (hostAt (.ready .cycle)) ∧
    stepForeground { ex with armed := true, pos := .waitEnable } = .next (hostAt .waitLoop) ∧
    stepForeground { hostAt (.cycleStore 3) with widths := #v[125, 249, 207, 249] }
      = .next (({ hostAt (.cycleStore 3) with widths := #v[125, 249, 207, 249] }.setTarget 3 249).setPos .cyclePace) ∧
    stepForeground (hostAt .waitLoop) = .next { hostAt (.ready .cycle) with loop := .running } :=
  ⟨rfl, rfl, rfl, rfl, rfl, rfl, rfl, rfl, rfl, rfl⟩
theorem test_witness_ConfigurationNeverChanges : step { ex with script := [.timer] } = .next ex := rfl
theorem test_witness_ClampLaws : Config.ex1.Ok ∧ (Config.ex1.wMin : Int) ≤ 125 ∧ (249 : Int) ≤ Config.ex1.wMax ∧ (124 : Int) ≤ 125 :=
  ⟨Config.ex1_ok, by decide, by decide, by decide⟩
theorem test_witness_DeadzoneIsTheOpenSquare : Config.ex1.lit = {} := rfl
theorem test_witness_MapResult : ex.cfg.Ok ∧ ex.atBoundary = true ∧ |(9 : Int)| < 10 ∧ |(-9 : Int)| < 10 ∧ 10 ≤ |(-10 : Int)| :=
  ⟨Config.ex1_ok, by decide, by decide, by decide, by decide⟩
theorem test_witness_MapLaws : Config.ex1.Ok ∧ inDeadzone Config.ex1.lit 10 0 = false ∧ inDeadzone Config.ex1.lit 10 77 = false ∧
    10 ≤ |(-62 : Int)| ∧ ∀ i : Channel, (Config.ex1.wMin : Int) ≤ Config.ex1.center[i] - |(-62 : Int)| ∧
      (Config.ex1.center[i] : Int) + |(-62 : Int)| ≤ Config.ex1.wMax := ⟨Config.ex1_ok, by decide, by decide, by decide, by decide⟩
theorem test_witness_BootInitialisesTheBlock : ex.cfg.Ok ∧ ex.atBoundary = true ∧ ex.ie = false := ⟨Config.ex1_ok, by decide, by decide⟩
/-- A host at a position, with a sample read. -/
def hostWith (p : HostPos) (v : Sample) : State := (hostAt p).setSample v

/-- At the test of the sample, with the code C (1 in EX1), and with "both" (0). -/
theorem test_witness_WaitStartEndsOnC :
    (let s := hostWith .waitTest { x := 128, y := 128, ax := 0, ay := 0, az := 0xFF, btn := 1 }
     s.HostAt .waitTest ∧ s.busOpen = false ∧ s.sample.btn = s.cfg.btn.c ∧ s.armed = true) ∧
    (let s := hostWith .waitTest { x := 128, y := 128, ax := 0, ay := 0, az := 0, btn := 0 }
     s.HostAt .waitTest ∧ s.busOpen = false ∧ s.sample.btn ≠ s.cfg.btn.c) := by decide
theorem test_witness_CorruptSampleIsDiscarded :
    (let s := hostWith .cycleJudge { x := 255, y := 255, ax := 255, ay := 255, az := 0xFF, btn := 3 }
     s.cfg.Ok ∧ s.pending = none ∧ s.seq = none ∧ s.busOpen = false ∧ s.pos = .cycleJudge ∧ s.sample.az = 0xFF) ∧
    (let s := ((hostAt .cycleJudge).setPending (some .stop)).setSeq (some { name := .requestSample, pos := 4, got := [] })
     s.pos = .cycleJudge ∧ s.seq ≠ none ∧ stepForeground s = .next s) :=
  ⟨⟨Config.ex1_ok, by decide, by decide, by decide, by decide, by decide⟩, by decide, by decide, rfl⟩
/-- `az` just below the sentinel, with the code C (1 in EX1), and with "both" (0). -/
theorem test_witness_RezeroOnCOnly :
    (let s := hostWith .cycleJudge { x := 150, y := 90, ax := 0, ay := 0, az := 0xFE, btn := 1 }
     s.cfg.Ok ∧ s.HostAt .cycleJudge ∧ s.sample.az ≠ 0xFF ∧ s.sample.btn = s.cfg.btn.c) ∧
    (let s := hostWith .cycleJudge { x := 150, y := 90, ax := 0, ay := 0, az := 0xFE, btn := 0 }
     s.cfg.Ok ∧ s.HostAt .cycleJudge ∧ s.sample.az ≠ 0xFF ∧ s.sample.btn ≠ s.cfg.btn.c) :=
  ⟨⟨Config.ex1_ok, by decide, by decide, by decide⟩, Config.ex1_ok, by decide, by decide, by decide⟩

/-- About to store four widths, the bounds among them, in P0. -/
def storing : State := { hostAt (.cycleStore 0) with widths := #v[125, 249, 207, 187], phase := .p0 }

theorem test_witness_FourStoresInChannelOrder : storing.pending = none ∧ storing.seq = none ∧ storing.pos = .cycleStore 0 ∧
    ∀ i : Channel, storing.cfg.InRange storing.widths[i] := by decide
theorem test_witness_PacingWaitsForTwentyTicks :
    (let s := (hostAt .cyclePace).setTick 19
     s.cfg.Ok ∧ s.pending = none ∧ s.seq = none ∧ s.pos = .cyclePace ∧ s.tick < 20) ∧
    (let s := (hostAt .cyclePace).setTick 20
     s.cfg.Ok ∧ s.pending = none ∧ s.seq = none ∧ s.pos = .cyclePace ∧ 20 ≤ s.tick) :=
  ⟨⟨Config.ex1_ok, by decide, by decide, by decide, by decide⟩, Config.ex1_ok, by decide, by decide, by decide, by decide⟩
theorem test_witness_CycleMapsTheSampleToTargets :
    (let s := running.setTick 20
     s.cfg.Ok ∧ s.atBoundary = true ∧ s.busOpen = false ∧ 20 ≤ s.tick) ∧
    (let v : Sample := { x := 0x8A, y := 0x80, ax := 0x7F, ay := 0x80, az := 0x90, btn := 0b10 }
     v = { x := (drawSC2 7).2, y := (drawSC2 8).2, ax := (drawSC2 9).2, ay := (drawSC2 10).2, az := (drawSC2 11).2,
           btn := ((drawSC2 12).2 &&& 0b11).setWidth 2 } ∧ v.az ≠ 0xFF ∧ v.btn ≠ (running.setTick 20).cfg.btn.c) :=
  ⟨⟨Config.ex1_ok, by decide, by decide, by decide⟩, by decide⟩
theorem test_witness_TickBetweenReadAndClearIsLost :
    (let s := { hostAt .cyclePace with phase := .p3, tick := 20 }
     s.cfg.Ok ∧ s.pending = none ∧ s.seq = none ∧ s.pos = .cyclePace ∧ s.interruptEnabled = true ∧ s.phase = .p3 ∧ 20 ≤ s.tick) :=
  ⟨Config.ex1_ok, by decide, by decide, by decide, by decide, by decide, by decide⟩
theorem test_witness_FrameCanMixTwoCommands : storing.HostAt (.cycleStore 0) ∧
    storing.interruptEnabled = true ∧ storing.phase = .p0 ∧ (∀ i : Channel, storing.cfg.InRange storing.widths[i]) ∧
    (∀ i : Channel, storing.cfg.InRange storing.target[i]) := by decide
/-- A host's transfer in flight, with the level of the slot that means ACK in EX1 and the other one, and an open frame with
nothing in flight. -/
theorem test_witness_WireByteCompletesTheTransfer_host : opened.cfg.ackLevel = false ∧ opened.seq = none ∧ opened.pending = none ∧
    (Prim.write 0xA5 ≠ .write 0xA4 ∧ Prim.write 0xA5 ≠ .read false) ∧
    (Prim.read true ≠ .write 0xA4 ∧ Prim.read true ≠ .read (decide (true = opened.cfg.ackLevel))) ∧
    (Prim.start ≠ .write 0xA4 ∧ Prim.start ≠ .read true ∧ Prim.stop ≠ .write 0xA4 ∧ Prim.stop ≠ .read true) ∧
    ∀ p ∈ [Prim.start, .stop, .write 0xA4, .write 0xA5, .read true, .read false],
      (opened.setPending (some p)).seq = none ∧ (opened.setPending (some p)).pending = some p := by decide
/-- READ_SAMPLE running: its address byte next, a read that is answered ACK, the last read, which is answered NAK, and STOP. -/
theorem test_witness_WireByteCompletesTheTransfer_sequence :
    (∀ n : Fin 10, (opened.setSeq (some { name := .readSample, pos := n, got := [] })).seq
        = some { name := .readSample, pos := n, got := [] } ∧
      (opened.setSeq (some { name := .readSample, pos := n, got := [] })).pending = none) ∧
    SeqRun.next ex.cfg.lit { name := .readSample, pos := 1, got := [] } = some (.prim (.write 0xA5)) ∧
    SeqRun.next ex.cfg.lit { name := .readSample, pos := 2, got := [] } = some (.prim (.read (decide (false = ex.cfg.ackLevel)))) ∧
    SeqRun.next ex.cfg.lit { name := .readSample, pos := 7, got := [] } = some (.prim (.read (decide (true = ex.cfg.ackLevel)))) ∧
    SeqRun.next ex.cfg.lit { name := .readSample, pos := 8, got := [] } = some (.prim .stop) ∧
    opened.busOpen = true ∧ ex.busOpen = false := by decide
theorem test_witness_WireSampleBecomesSample :
    (let s := opened.setSeq (some { name := .readSample, pos := 2, got := [] })
     s.cfg.Ok ∧ s.pending = none ∧ s.busOpen = true ∧ s.seq = some { name := .readSample, pos := 2, got := [] }) :=
  ⟨Config.ex1_ok, by decide, by decide, by decide⟩

end Sys2Proof.Tests
end

section
/-!
PROOFS. The configuration record is fixed for a run (00_scope.md R6): it is the same after every agent's move, hence after
every step.
-/

namespace Sys2Proof.Machine

/-! ### The scheduler's operations -/

theorem initScheduler_cfg {s t : State} (h : Machine.initScheduler s = .next t) : t.cfg = s.cfg := by
  obtain ⟨_, rfl⟩ := initScheduler_eq_next h
  rfl

theorem enableScheduler_cfg {s t : State} (h : enableScheduler s = .next t) : t.cfg = s.cfg := by
  obtain ⟨_, rfl⟩ := enableScheduler_eq_next h
  rfl

theorem storeTarget_cfg {i w : Nat} {s t : State} (h : storeTarget i w s = .next t) : t.cfg = s.cfg := by
  obtain ⟨_, _, rfl⟩ := storeTarget_eq_next h
  rfl

@[simp] theorem compareEvent_cfg (s : State) : (compareEvent s).cfg = s.cfg := by
  rw [compareEvent_eq]

/-! ### The agents -/

@[simp] theorem complete_cfg (a : Ack) (v : Byte) (s : State) : (complete a v s).cfg = s.cfg :=
  (complete_sameScheduler a v s).cfg

theorem execCompareMatch_cfg {s t : State} (h : execCompareMatch s = .next t) : t.cfg = s.cfg := by
  cases h
  exact compareEvent_cfg s

theorem exec_cfg {i : Instr} {s t : State} (h : exec i s = .next t) : t.cfg = s.cfg := by
  by_cases hi : i = .compareMatch
  · subst hi
    exact execCompareMatch_cfg h
  · obtain ⟨_, hInit⟩ | ⟨_, hEnable⟩ | ⟨_, _, _, hStore⟩ | ⟨_, rfl⟩ | ⟨_, _, _, _, hSame⟩ := exec_eq_next hi h
    · exact initScheduler_cfg hInit
    · exact enableScheduler_cfg hEnable
    · exact storeTarget_cfg hStore
    · rfl
    · exact hSame.cfg

theorem runWord_cfg {f : Fetch} {s t : State} (h : runWord f s = .next t) : t.cfg = s.cfg := by
  unfold runWord at h
  split at h
  · exact exec_cfg h
  · cases h

theorem stepHost_cfg {s t : State} (h : stepHost s = .next t) : t.cfg = s.cfg := by
  obtain ⟨_, u, hInit, hSame⟩ | ⟨_, u, hEnable, hSame⟩ | ⟨_, _, u, hStore, hSame⟩ | ⟨_, hSame⟩ | ⟨_, _, _, _, hSame⟩ :=
    stepHost_eq_next h
  · exact hSame.cfg.trans (initScheduler_cfg hInit)
  · exact hSame.cfg.trans (enableScheduler_cfg hEnable)
  · exact hSame.cfg.trans (storeTarget_cfg hStore)
  · exact hSame.cfg
  · exact hSame.cfg

theorem stepForeground_cfg {s t : State} (h : stepForeground s = .next t) : t.cfg = s.cfg := by
  unfold stepForeground at h
  split at h
  · cases h
    rfl
  · exact (stepSequence_sameScheduler h).cfg
  · exact stepHost_cfg h

/-! ### The whole machine -/

theorem takeTurn_cfg {turn : Turn} {s t : State} (h : takeTurn turn s = .next t) : t.cfg = s.cfg := by
  cases turn with
  | foreground => exact stepForeground_cfg h
  | timer => exact execCompareMatch_cfg h
  | shiftComplete a v =>
    cases h
    exact complete_cfg a v s
  | present f => exact runWord_cfg h

@[simp] theorem nextTurn_cfg (s : State) : (nextTurn s).2.cfg = s.cfg := by
  rw [nextTurn_state]

/-- Settles O36: whichever agent's turn it is, its move leaves the record alone. -/
theorem configurationNeverChanges : Obligations.ConfigurationNeverChanges := by
  intro s t h
  exact (takeTurn_cfg h).trans (nextTurn_cfg s)

end Sys2Proof.Machine
end

section
/-!
PROOFS. The order of bits on the bus (20_memory.md R62): every byte goes bit 7 first, with the acknowledge slot after bit 0.
-/

namespace Sys2Proof

/-- Bits 1:0 of the button byte are the code, bits 7:2 the bits that R99 discards. -/
theorem getLsbD_buttonByte (r : BitVec 6) (btn : Code2) (i : Nat) :
    (buttonByte r btn).getLsbD i = if i < 2 then btn.getLsbD i else r.getLsbD (i - 2) :=
  BitVec.getLsbD_append

/-- The button byte's bits in bus order: the pattern "rrrrrrbb" of R99. -/
theorem byteBits_buttonByte (r : BitVec 6) (btn : Code2) : byteBits (buttonByte r btn) =
    [r.getLsbD 5, r.getLsbD 4, r.getLsbD 3, r.getLsbD 2, r.getLsbD 1, r.getLsbD 0, btn.getLsbD 1, btn.getLsbD 0] := by
  simp only [byteBits, getLsbD_buttonByte, Nat.reduceLT, Nat.reduceSub, ↓reduceIte]

/-- A transfer's nine slots are a byte and its acknowledge bit, whatever the configuration's literals. -/
theorem decode_transfer (l : Literals) (b : Byte) (a : Bool) :
    decode l (.wire .transfer (byteBits b ++ [a])) = .ok (.wireByte b a) := by
  simp only [decode, decodeWire, takeByte_byteBits]

/-- The bits that arrive in the eight data slots of a transfer are bits 7 to 0 of the byte read. -/
theorem decode_transfer_bits (l : Literals) (b7 b6 b5 b4 b3 b2 b1 b0 a : Bool) : ∃ b : Byte,
    decode l (.wire .transfer [b7, b6, b5, b4, b3, b2, b1, b0, a]) = .ok (.wireByte b a) ∧
    byteBits b = [b7, b6, b5, b4, b3, b2, b1, b0] := by
  have hbits := byteBits_byteOfBits b7 b6 b5 b4 b3 b2 b1 b0
  have hdecode := decode_transfer l (byteOfBits b7 b6 b5 b4 b3 b2 b1 b0) a
  rw [hbits] at hdecode
  exact ⟨_, hdecode, hbits⟩

/-- Settles O8: each pattern is a run of `byteBits`, whose order is R62's, and a transfer decodes to the byte with those bits. -/
theorem bytesGoMostSignificantBitFirst : Obligations.BytesGoMostSignificantBitFirst := by
  refine ⟨?transfer, ?arrival, ?addrW, ?addrR, rfl, rfl, rfl, rfl, rfl, ?sample, ?buttons, ?byteA4⟩
  case transfer => intro l b a; rfl
  case arrival =>
    intro l b7 b6 b5 b4 b3 b2 b1 b0 a
    obtain ⟨b, hdecode, hbits⟩ := decode_transfer_bits l b7 b6 b5 b4 b3 b2 b1 b0 a
    exact ⟨b, hdecode, by simpa [byteBits] using hbits⟩
  case addrW => rintro l _ rfl; rfl
  case addrR => rintro l _ rfl; rfl
  case sample =>
    intro l x y ax ay az r btn
    rw [encode, byteBits_buttonByte]
    rfl
  case buttons =>
    intro l r btn
    rw [encode, byteBits_buttonByte]
  case byteA4 => intro a; rfl

end Sys2Proof
end

section
/-!
PROOFS. The Pulse Scheduler (42_pulse_scheduler.md): one compare-match event, a run of them and the frames that end in it, and
the only ways a turn moves the scheduler's half.
-/

namespace Sys2Proof.Machine

/-! ### One event -/

theorem exec_compareMatch (s : State) : exec .compareMatch s = .next (compareEvent s) := rfl

theorem interruptEnabled_iff (s : State) : s.interruptEnabled = true ↔ s.armed = true ∧ s.ie = true := by
  simp [State.interruptEnabled]

@[simp] theorem compareEvent_interruptEnabled (s : State) : (compareEvent s).interruptEnabled = s.interruptEnabled := by
  rw [compareEvent_eq]
  rfl

/-- An event does not disturb what the foreground is doing (R75). -/
@[simp] theorem compareEvent_atBoundary (s : State) : (compareEvent s).atBoundary = s.atBoundary := by
  rw [compareEvent_eq]
  rfl

/-- Gap is the one scheduler state that is no channel's pulse (R26). -/
@[simp] theorem channel_eq_none_iff (p : Phase) : p.channel = none ↔ p = .gap := by
  cases p <;> simp [Phase.channel]

/-- What an enabled event moves (R190): phase to its successor, PULSE by the record of the state entered, and TICK, kept at its
width, by one exactly on entering Gap. -/
theorem compareEvent_enabled {s : State} (h : s.interruptEnabled = true) :
    (compareEvent s).phase = s.phase.succ ∧
    (compareEvent s).pulse = s.pulse ++ [{ phase := s.phase.succ, count := (compareEvent s).cmp }] ∧
    (compareEvent s).tick = if s.phase.succ = .gap then nextTick s.cfg s.tick else s.tick := by
  cases hk : s.phase.succ.channel with
  | none =>
    have hgap : s.phase.succ = .gap := (channel_eq_none_iff _).mp hk
    simp [compareEvent_gap h hk, enterGap, hgap]
  | some k =>
    have hgap : s.phase.succ ≠ .gap := by
      intro e
      simp [e, Phase.channel] at hk
    simp [compareEvent_pulse h hk, enterPulse, hgap]

/-- Settles O28: the handler runs, and which of its two branches it takes is the channel of the state entered. -/
theorem compareMatchIsTheHandler : Obligations.CompareMatchIsTheHandler := by
  intro s harmed hie
  have hen : s.interruptEnabled = true := (interruptEnabled_iff s).mpr ⟨harmed, hie⟩
  constructor
  · intro k hk
    rw [exec_compareMatch, compareEvent_pulse hen hk]
    rfl
  · intro hgap
    rw [exec_compareMatch, compareEvent_gap hen ((channel_eq_none_iff _).mpr hgap)]
    rfl

/-! ### A run of events -/

theorem compareEvents_disabled {s : State} (h : s.interruptEnabled = false) (n : Nat) : compareEvents n s = s := by
  induction n with
  | zero => rfl
  | succ n ih => rw [compareEvents, compareEvent_disabled h, ih]

@[simp] theorem compareEvents_atBoundary (n : Nat) (s : State) : (compareEvents n s).atBoundary = s.atBoundary := by
  induction n generalizing s with
  | zero => rfl
  | succ n ih => rw [compareEvents, ih, compareEvent_atBoundary]

/-- How many events ago the scheduler entered Gap, in the cycle of R189. -/
def Phase.sinceGap : Phase → Nat
  | .gap => 0
  | .p0  => 1
  | .p1  => 2
  | .p2  => 3
  | .p3  => 4

/-- How many of `n` events from scheduler state `p` enter Gap, each of them ending a frame. -/
def framesEnded (p : Phase) (n : Nat) : Nat := (p.sinceGap + n) / 5

/-- The Gap records of a pulse trace. -/
def gapRecords (l : List Pulse) : Nat := l.countP (·.phase = .gap)

theorem sinceGap_lt (p : Phase) : p.sinceGap < 5 := by
  cases p <;> decide

@[simp] theorem framesEnded_zero (p : Phase) : framesEnded p 0 = 0 := by
  have := sinceGap_lt p
  unfold framesEnded
  omega

/-- The first event ends a frame exactly when it enters Gap. -/
theorem framesEnded_succ (p : Phase) (n : Nat) :
    framesEnded p (n + 1) = (if p.succ = .gap then 1 else 0) + framesEnded p.succ n := by
  cases p <;> simp [framesEnded, Phase.succ, Phase.sinceGap] <;> omega

/-- At most one frame ends for each five events, rounded up. -/
theorem framesEnded_le (p : Phase) (n : Nat) : framesEnded p n ≤ (n + 4) / 5 := by
  have := sinceGap_lt p
  unfold framesEnded
  omega

/-- Enabled events add a Gap record to PULSE for every frame they end. -/
theorem compareEvents_pulse {s : State} (h : s.interruptEnabled = true) (n : Nat) :
    ∃ l, (compareEvents n s).pulse = s.pulse ++ l ∧ gapRecords l = framesEnded s.phase n := by
  induction n generalizing s with
  | zero => exact ⟨[], by simp [compareEvents], by simp [gapRecords]⟩
  | succ n ih =>
    obtain ⟨hphase, hpulse, _⟩ := compareEvent_enabled h
    obtain ⟨l, hl, hcount⟩ := ih (s := compareEvent s) (by simpa using h)
    refine ⟨{ phase := s.phase.succ, count := (compareEvent s).cmp } :: l, ?_, ?_⟩
    · rw [compareEvents, hl, hpulse, List.append_assoc, List.singleton_append]
    · rw [framesEnded_succ, ← hphase, ← hcount, gapRecords, gapRecords, List.countP_cons, Nat.add_comm]
      simp

/-- Enabled events move TICK, at its width, by the frames they end. -/
theorem compareEvents_tick {s : State} (h : s.interruptEnabled = true) (hfits : s.tick < 2 ^ s.cfg.tickBits) (n : Nat) :
    (compareEvents n s).tick = (s.tick + framesEnded s.phase n) % 2 ^ s.cfg.tickBits := by
  induction n generalizing s with
  | zero => simp [compareEvents, Nat.mod_eq_of_lt hfits]
  | succ n ih =>
    obtain ⟨hphase, _, htick⟩ := compareEvent_enabled h
    have hstep : (compareEvent s).tick = (s.tick + if s.phase.succ = .gap then 1 else 0) % 2 ^ s.cfg.tickBits := by
      rw [htick]
      split
      · rfl
      · exact (Nat.mod_eq_of_lt hfits).symm
    have hfits' : (compareEvent s).tick < 2 ^ (compareEvent s).cfg.tickBits := by
      rw [hstep, compareEvent_cfg]
      exact Nat.mod_lt _ (Nat.two_pow_pos _)
    rw [compareEvents, ih (by simpa using h) hfits', hphase, compareEvent_cfg, hstep, Nat.mod_add_mod, Nat.add_assoc,
      framesEnded_succ]

/-- Enabled or not, events move TICK, at its width, by the Gap records they add to PULSE. -/
theorem compareEvents_tick_eq_gapRecords {s : State} (hfits : s.tick < 2 ^ s.cfg.tickBits) (n : Nat) :
    ∃ l, (compareEvents n s).pulse = s.pulse ++ l ∧ gapRecords l ≤ (n + 4) / 5 ∧
      (compareEvents n s).tick = (s.tick + gapRecords l) % 2 ^ s.cfg.tickBits := by
  cases h : s.interruptEnabled with
  | false =>
    rw [compareEvents_disabled h]
    exact ⟨[], by simp, by simp [gapRecords], (Nat.mod_eq_of_lt hfits).symm⟩
  | true =>
    obtain ⟨l, hpulse, hcount⟩ := compareEvents_pulse h n
    exact ⟨l, hpulse, hcount ▸ framesEnded_le s.phase n, hcount ▸ compareEvents_tick h hfits n⟩

/-- From TICK 0, the events that carry the scheduler once to Gap leave TICK at 1: it has room, being at least one bit wide. -/
theorem compareEvents_first_tick {s : State} (hok : s.cfg.Ok) (h : s.interruptEnabled = true) (htick : s.tick = 0) :
    (compareEvents (5 - s.phase.sinceGap) s).tick = 1 := by
  have hroom : 1 < 2 ^ s.cfg.tickBits := Nat.one_lt_two_pow hok.tickBits_pos.ne'
  have hfits : s.tick < 2 ^ s.cfg.tickBits := by omega
  have hone : framesEnded s.phase (5 - s.phase.sinceGap) = 1 := by
    have := sinceGap_lt s.phase
    unfold framesEnded
    omega
  rw [compareEvents_tick h hfits, htick, hone, Nat.zero_add, Nat.mod_eq_of_lt hroom]

/-! ### GET_TICK and CLR_TICK -/

theorem exec_getTick {s : State} (h : s.atBoundary = true) : exec .getTick s = .next (loadTick s) :=
  whenIdle_of_atBoundary h fun s => .next (loadTick s)

theorem exec_clrTick {s : State} (h : s.atBoundary = true) : exec .clrTick s = .next (s.setTick 0) :=
  whenIdle_of_atBoundary h fun s => .next (s.setTick 0)

/-- Settles O26: the events between two reads move TICK by the Gap records they add, which are at most one for each frame. -/
theorem getTickReadsWithoutClearing : Obligations.GetTickReadsWithoutClearing := by
  intro s hb
  have hread : ∀ n, exec .getTick (compareEvents n s) = .next (loadTick (compareEvents n s)) := fun n =>
    exec_getTick (by simpa using hb)
  refine ⟨exec_getTick hb, ?between, ?frame⟩
  case between =>
    intro n hfits
    obtain ⟨l, hpulse, hle, htick⟩ := compareEvents_tick_eq_gapRecords hfits n
    refine ⟨_, gapRecords l, hread n, rfl, ?_, hle, by omega, htick, ?_⟩
    · rw [hpulse, List.drop_left]
      rfl
    · intro hroom
      rw [htick, Nat.mod_eq_of_lt hroom]
      omega
  case frame =>
    intro hok hen hgap hzero
    have hone := compareEvents_first_tick hok hen hzero
    rw [hgap] at hone
    exact ⟨_, hread 5, congrArg Ret.tick hone⟩

/-- Settles O27: a tick before the store is overwritten, and from any phase Gap is entered within five events. -/
theorem clrTickClears : Obligations.ClrTickClears := by
  intro s hb
  refine ⟨exec_clrTick hb, ?lost, ?first⟩
  case lost =>
    rintro _ ⟨⟩
    exact ⟨_, exec_clrTick (by simpa using hb), rfl⟩
  case first =>
    intro hok hen
    have hlt := sinceGap_lt s.phase
    exact ⟨_, 5 - s.phase.sinceGap, exec_clrTick hb, by omega, by omega,
      compareEvents_first_tick (s := s.setTick 0) hok hen rfl⟩

/-! ### What a turn can do to the scheduler's half -/

/-- What one foreground step, presented or the reference host's, can do to the scheduler's half: one of its four operations
(R44), or nothing. -/
inductive SchedulerWrite (s : State) : State → Prop
  | init {u t : State} (h : initScheduler s = .next u) (same : SameScheduler u t) : SchedulerWrite s t
  | enable {u t : State} (h : enableScheduler s = .next u) (same : SameScheduler u t) : SchedulerWrite s t
  | store {c w : Nat} {u t : State} (h : storeTarget c w s = .next u) (same : SameScheduler u t) : SchedulerWrite s t
  | clear {t : State} (same : SameScheduler (s.setTick 0) t) : SchedulerWrite s t
  | none {t : State} (same : SameScheduler s t) : SchedulerWrite s t

theorem exec_schedulerWrite {i : Instr} {s t : State} (hi : i ≠ .compareMatch) (h : exec i s = .next t) :
    SchedulerWrite s t := by
  obtain ⟨_, hInit⟩ | ⟨_, hEnable⟩ | ⟨_, _, _, hStore⟩ | ⟨_, rfl⟩ | ⟨_, _, _, _, hSame⟩ := exec_eq_next hi h
  · exact .init hInit (.refl _)
  · exact .enable hEnable (.refl _)
  · exact .store hStore (.refl _)
  · exact .clear (.refl _)
  · exact .none hSame

theorem stepHost_schedulerWrite {s t : State} (h : stepHost s = .next t) : SchedulerWrite s t := by
  obtain ⟨_, _, hInit, hSame⟩ | ⟨_, _, hEnable, hSame⟩ | ⟨_, _, _, hStore, hSame⟩ | ⟨_, hSame⟩ | ⟨_, _, _, _, hSame⟩ :=
    stepHost_eq_next h
  · exact .init hInit hSame
  · exact .enable hEnable hSame
  · exact .store hStore hSame
  · exact .clear hSame
  · exact .none hSame

theorem stepForeground_schedulerWrite {s t : State} (h : stepForeground s = .next t) : SchedulerWrite s t := by
  unfold stepForeground at h
  split at h
  · cases h
    exact .none (.refl _)
  · exact .none (stepSequence_sameScheduler h)
  · exact stepHost_schedulerWrite h

/-- Whichever agent moves, the scheduler's half sees the event or a foreground step. -/
theorem takeTurn_scheduler {turn : Turn} {s t : State} (h : takeTurn turn s = .next t) :
    t = compareEvent s ∨ SchedulerWrite s t := by
  cases turn with
  | foreground => exact .inr (stepForeground_schedulerWrite h)
  | timer =>
    cases h
    exact .inl rfl
  | shiftComplete a v =>
    cases h
    exact .inr (.none (complete_sameScheduler a v s))
  | present f =>
    simp only [takeTurn, runWord] at h
    split at h
    · rename_i i _
      by_cases hi : i = .compareMatch
      · subst hi
        cases h
        exact .inl rfl
      · exact .inr (exec_schedulerWrite hi h)
    · cases h

/-! ### phase -/

/-- An event moves phase to its successor, or has no effect. -/
theorem compareEvent_phase (s : State) : (compareEvent s).phase = s.phase ∨ (compareEvent s).phase = s.phase.succ := by
  cases h : s.interruptEnabled with
  | false => exact .inl (by rw [compareEvent_disabled h])
  | true => exact .inr (compareEvent_enabled h).1

/-- Of the foreground's operations only SCHED_INIT writes phase: Gap, and only with IE = 0. -/
theorem SchedulerWrite.phase {s t : State} (h : SchedulerWrite s t) :
    t.phase = s.phase ∨ (s.ie = false ∧ t.phase = .gap) := by
  cases h with
  | init h same =>
    obtain ⟨hie, rfl⟩ := initScheduler_eq_next h
    exact .inr ⟨hie, same.phase⟩
  | enable h same =>
    obtain ⟨_, rfl⟩ := enableScheduler_eq_next h
    exact .inl same.phase
  | store h same =>
    obtain ⟨_, _, rfl⟩ := storeTarget_eq_next h
    exact .inl same.phase
  | clear same => exact .inl same.phase
  | none same => exact .inl same.phase

/-- Until IE is set no event has had an effect, so the scheduler is still in Gap (R183, R189). -/
theorem State.Inv.phase_of_ie_false {s : State} (h : s.Inv) (hie : s.ie = false) : s.phase = .gap :=
  h.trace.empty (h.inert hie).1

theorem takeTurn_phase {turn : Turn} {s t : State} (hgap : s.ie = false → s.phase = .gap)
    (h : takeTurn turn s = .next t) : t.phase = s.phase ∨ t.phase = s.phase.succ := by
  rcases takeTurn_scheduler h with rfl | hwrite
  · exact compareEvent_phase s
  · rcases hwrite.phase with hsame | ⟨hie, hphase⟩
    · exact .inl hsame
    · exact .inl (hphase.trans (hgap hie).symm)

/-- Settles O30: only the event and SCHED_INIT write phase, and SCHED_INIT, refused once IE = 1, finds Gap and leaves Gap. -/
theorem phaseMovesOnlyToItsSuccessor : Obligations.PhaseMovesOnlyToItsSuccessor := by
  refine ⟨⟨rfl, rfl, rfl, rfl, rfl⟩, ?cycle, ?moves⟩
  case cycle => intro p; cases p <;> decide
  case moves =>
    intro s t hinv h
    have hmove : t.phase = (nextTurn s).2.phase ∨ t.phase = (nextTurn s).2.phase.succ :=
      takeTurn_phase (by rw [nextTurn_state]; exact hinv.phase_of_ie_false) h
    rwa [nextTurn_state] at hmove

end Sys2Proof.Machine
end

section
/-!
PROOFS. The reference host (43_reference_host.md): CLAMP over all the integers, and a discarded sample with the read that
follows it.
-/

namespace Sys2Proof.Machine

/-! ### CLAMP -/

/-- CLAMP in the integers (R211): a value that is not below `W_MIN` is no negative one, so taking it as a width loses nothing. -/
theorem clampWidth_cast (c : Config) (v : Int) :
    (clampWidth c v : Int) = if v < c.wMin then (c.wMin : Int) else if v > c.wMax then c.wMax else v := by
  unfold clampWidth
  split_ifs with hlow hhigh
  · rfl
  · rfl
  · exact Int.toNat_of_nonneg (by omega)

theorem exec_clamp {s : State} (h : s.atBoundary = true) (v : Int) :
    exec (.clamp v) s = .next (s.setRet (.width (clampWidth s.cfg v))) :=
  whenIdle_of_atBoundary h fun s => .next (s.setRet (.width (clampWidth s.cfg v)))

/-- Settles O40: the width returned is `clampWidth`, which in the integers is R211's definition. -/
theorem clampResult : Obligations.ClampResult := by
  intro s v hb
  exact ⟨clampWidth s.cfg v, exec_clamp hb v, clampWidth_cast s.cfg v⟩

/-! ### A discarded sample -/

/-- At the test of the sample, the sentinel has the next sample requested at once (R226). -/
theorem stepHost_discard {s : State} (hlit : s.cfg.lit = {}) (hpos : s.pos = .cycleJudge) (haz : s.sample.az = 0xFF) :
    stepHost s = enterSequence .requestSample s := by
  have hsentinel : s.sample.az = s.cfg.lit.sentinel := by rw [haz, hlit]
  simp [stepHost, hpos, judgeSample, hsentinel]

/-- A sequence's foreground step writes what the bus and the sequence use, and on return SAMPLE and the value returned: the
rest of the state stays (R160). -/
theorem stepSequence_frame {run : SeqRun} {s t : State} (h : stepSequence run s = .next t) :
    t = { s with pending := t.pending, seq := t.seq, wire := t.wire, sample := t.sample, ret := t.ret } := by
  obtain ⟨_, _, _, _, rfl⟩ | ⟨_, _, rfl⟩ | ⟨_, hfinish⟩ := stepSequence_eq_next h
  · rfl
  · rfl
  · obtain ⟨_, rfl⟩ | ⟨_, _, _, rfl⟩ := finishSequence_eq_next hfinish
    · rfl
    · rfl

/-- While a sequence runs, the foreground busy-waits or takes the sequence's step, so the same frame holds of its turn. -/
theorem stepForeground_frame_of_sequence {s t : State} (hseq : s.seq ≠ none) (h : stepForeground s = .next t) :
    t = { s with pending := t.pending, seq := t.seq, wire := t.wire, sample := t.sample, ret := t.ret } := by
  cases hp : s.pending with
  | some p =>
    rw [stepForeground_pending hp] at h
    cases h
    rfl
  | none =>
    obtain ⟨run, hrun⟩ := Option.ne_none_iff_exists'.mp hseq
    rw [stepForeground_sequence hp hrun] at h
    exact stepSequence_frame h

/-- Settles O49: the sentinel enters REQUEST_SAMPLE, and CAL, TARGET and TICK are outside what a running sequence writes. -/
theorem corruptSampleIsDiscarded : Obligations.CorruptSampleIsDiscarded := by
  refine ⟨?discard, ?reading⟩
  case discard =>
    intro s hok hp hs hb hpos haz
    rw [stepForeground_host hp hs, stepHost_discard hok.lit_default hpos haz]
    exact enterSequence_of_closed hp hb
  case reading =>
    intro s t hpos hseq h
    rw [stepForeground_frame_of_sequence hseq h]
    exact ⟨hpos, rfl, rfl, rfl, rfl⟩

end Sys2Proof.Machine
end

section
/-!
PROOFS. The words (30_encoding.md): each row has one word and each word one row; reserved operation numbers name none.
-/

namespace Sys2Proof

/-! ### From an instruction to its word and back -/

/-- Settles O4: the round trip, instruction by instruction (`Laws.RoundTrip`). -/
theorem decodeOfEncode : Obligations.DecodeOfEncode := by
  intro i
  cases i with
  | busInit => exact Laws.RoundTrip.busInit
  | start => exact Laws.RoundTrip.start
  | stop => exact Laws.RoundTrip.stop
  | writeByte b => exact Laws.RoundTrip.writeByte b
  | readByte k => exact Laws.RoundTrip.readByte k
  | delaySettle => exact Laws.RoundTrip.delaySettle
  | sensorInit => exact Laws.RoundTrip.sensorInit
  | requestSample => exact Laws.RoundTrip.requestSample
  | readSample => exact Laws.RoundTrip.readSample
  | schedInit => exact Laws.RoundTrip.schedInit
  | schedEnable => exact Laws.RoundTrip.schedEnable
  | setTarget i w => exact Laws.RoundTrip.setTarget i w
  | getTick => exact Laws.RoundTrip.getTick
  | clrTick => exact Laws.RoundTrip.clrTick
  | compareMatch => exact Laws.RoundTrip.compareMatch
  | clamp v => exact Laws.RoundTrip.clamp v
  | scale raw zero => exact Laws.RoundTrip.scale raw zero
  | mode btn dx dy => exact Laws.RoundTrip.mode btn dx dy
  | map dx dy m => exact Laws.RoundTrip.map dx dy m
  | boot => exact Laws.RoundTrip.boot
  | waitStart => exact Laws.RoundTrip.waitStart
  | cycle => exact Laws.RoundTrip.cycle
  | wireByte b a => exact Laws.RoundTrip.wireByte b a
  | wireAddrW => exact Laws.RoundTrip.wireAddrW
  | wireAddrR => exact Laws.RoundTrip.wireAddrR
  | wireInit1 => exact Laws.RoundTrip.wireInit1
  | wireInit2 => exact Laws.RoundTrip.wireInit2
  | wireTrig => exact Laws.RoundTrip.wireTrig
  | wireSample x y ax ay az r btn => exact Laws.RoundTrip.wireSample x y ax ay az r btn
  | wireButtons r btn => exact Laws.RoundTrip.wireButtons r btn

/-! ### From a word to its instruction and back -/

theorem except_map_eq_ok {ε α β : Type} {x : Except ε α} {f : α → β} {b : β} (h : x.map f = .ok b) :
    ∃ a, x = .ok a ∧ f a = b := by
  cases x with
  | error e => cases h
  | ok a => cases h; exact ⟨a, rfl, rfl⟩

theorem except_bind_eq_ok {ε α β : Type} {x : Except ε α} {f : α → Except ε β} {b : β} (h : x.bind f = .ok b) :
    ∃ a, x = .ok a ∧ f a = .ok b := by
  cases x with
  | error e => cases h
  | ok a => exact ⟨a, rfl, h⟩

/-- A command word that decodes is the word of the instruction it decodes to, whatever the literals. -/
theorem encode_of_decodeCommand {l : Literals} {n : Byte} {operands : List Int} {i : Instr}
    (h : decodeCommand n operands = .ok i) : i.wellFormed = true ∧ encode l i = .command n operands := by
  unfold decodeCommand at h
  split at h
  · cases h
  rename_i op hop
  obtain rfl := number_ofNumber hop
  split at h
  -- the six operations whose operands are read from numbers, then those that take none or take them as they are
  case h_4 b => -- WRITE_BYTE
    obtain ⟨b, hb, rfl⟩ := except_map_eq_ok h
    exact ⟨rfl, by rw [encode, bitsOperand_eq_ok hb]⟩
  case h_5 k => -- READ_BYTE
    obtain ⟨k, hk, rfl⟩ := except_map_eq_ok h
    exact ⟨rfl, by rw [encode, flagOperand_eq_ok hk]⟩
  case h_12 c w => -- SET_TARGET
    obtain ⟨c, hc, h⟩ := except_bind_eq_ok h
    obtain ⟨w, hw, rfl⟩ := except_map_eq_ok h
    obtain ⟨hc, hlt⟩ := channelOperand_eq_ok hc
    exact ⟨by simpa [Instr.wellFormed] using hlt, by rw [encode, hc, widthOperand_eq_ok hw]⟩
  case h_17 r z => -- SCALE
    obtain ⟨r, hr, h⟩ := except_bind_eq_ok h
    obtain ⟨z, hz, rfl⟩ := except_map_eq_ok h
    exact ⟨rfl, by rw [encode, bitsOperand_eq_ok hr, bitsOperand_eq_ok hz]⟩
  case h_18 b dx dy => -- MODE
    obtain ⟨b, hb, rfl⟩ := except_map_eq_ok h
    exact ⟨rfl, by rw [encode, bitsOperand_eq_ok hb]⟩
  case h_19 dx dy m => -- MAP
    obtain ⟨m, hm, rfl⟩ := except_map_eq_ok h
    exact ⟨rfl, by rw [encode, modeOperand_eq_ok hm]⟩
  all_goals cases h
  all_goals exact ⟨rfl, rfl⟩

/-- A wire pattern that decodes is the pattern of the instruction it decodes to, whatever the literals. -/
theorem encode_of_decodeWire {l : Literals} {place : Place} {bits : List Bool} {i : Instr}
    (h : decodeWire l place bits = .ok i) : i.wellFormed = true ∧ encode l i = .wire place bits := by
  cases place <;> simp only [decodeWire] at h
  case transfer =>
    split at h
    · rename_i b a hb
      cases h
      exact ⟨rfl, by rw [encode, takeByte_eq_some hb]⟩
    · cases h
  case address =>
    split at h
    · rename_i b hb
      have hbits : bits = byteBits b := by simpa using takeBytes_eq_some hb
      split_ifs at h with hw hr
      · cases h
        exact ⟨rfl, by rw [encode, hbits, hw]⟩
      · cases h
        exact ⟨rfl, by rw [encode, hbits, hr]⟩
    · cases h
  case payload =>
    split at h
    · rename_i p hp
      have hbits := takeBytes_eq_some hp
      split_ifs at h with h1 h2 h3
      · cases h
        exact ⟨rfl, by rw [encode, hbits, h1]⟩
      · cases h
        exact ⟨rfl, by rw [encode, hbits, h2]⟩
      · cases h
        exact ⟨rfl, by rw [encode, hbits, h3]⟩
    · cases h
  case sample =>
    split at h
    · rename_i x y ax ay az v6 hp
      cases h
      exact ⟨rfl, by simp [encode, takeBytes_eq_some hp]⟩
    · cases h
  case buttons =>
    split at h
    · rename_i v6 hp
      cases h
      exact ⟨rfl, by simp [encode, takeBytes_eq_some hp]⟩
    · cases h

/-- Settles O5: each decoder's accepted word is put together again from the operands, or the bytes, it was read as. -/
theorem decodedWordIsTheEncoding : Obligations.DecodedWordIsTheEncoding := by
  intro f i h
  cases f with
  | command n operands => exact encode_of_decodeCommand h
  | wire place bits => exact encode_of_decodeWire h

/-! ### Operation numbers -/

theorem op_mem_all (o : Op) : o ∈ Op.all := by cases o <;> decide

theorem op_number_injective {o o' : Op} (h : o.number = o'.number) : o = o' := by
  have ho := ofNumber_number o
  rw [h, ofNumber_number] at ho
  exact (Option.some.inj ho).symm

theorem ofNumber_of_not_mem {n : Byte} (h : n ∉ Op.all.map Op.number) : Op.ofNumber n = none := by
  cases ho : Op.ofNumber n with
  | none => rfl
  | some o => exact absurd (List.mem_map.mpr ⟨o, op_mem_all o, number_ofNumber ho⟩) h

/-- Settles O6: the decoder looks the number up in the list, where each operation stands under a number of its own. -/
theorem reservedOperationNumbersRefused : Obligations.ReservedOperationNumbersRefused := by
  refine ⟨?reserved, fun _ _ h => op_number_injective h, op_mem_all⟩
  intro l n operands h
  simp [decode, decodeCommand, ofNumber_of_not_mem h]

/-- Settles O7: the words are the fixed ones of the spec's tables, so the decoder is run on them. -/
theorem specWordsDecode : Obligations.SpecWordsDecode := by
  unfold Obligations.SpecWordsDecode
  decide

end Sys2Proof
end

section
/-!
PROOFS. CLAMP, SCALE, MODE and MAP, the mapper's arithmetic (43_reference_host.md section 2).
-/

namespace Sys2Proof.Machine

/-! ### CLAMP -/

theorem clampWidth_inRange {c : Config} (h : c.wMin ≤ c.wMax) (v : Int) : c.InRange (clampWidth c v) := by
  have hv := clampWidth_cast c v
  split_ifs at hv <;> constructor <;> omega

theorem clampWidth_of_inRange {c : Config} {v : Int} (hlow : (c.wMin : Int) ≤ v) (hhigh : v ≤ c.wMax) :
    (clampWidth c v : Int) = v := by
  rw [clampWidth_cast, if_neg (by omega), if_neg (by omega)]

theorem clampWidth_mono {c : Config} (h : c.wMin ≤ c.wMax) {u v : Int} (huv : u ≤ v) :
    clampWidth c u ≤ clampWidth c v := by
  have hu := clampWidth_cast c u
  have hv := clampWidth_cast c v
  split_ifs at hu hv <;> omega

/-- Settles O41: CLAMP's value is in range, and a value in range is its own clamp. -/
theorem clampLaws : Obligations.ClampLaws := by
  intro c hok u v
  have hrange := clampWidth_inRange hok.wMin_le_wMax v
  refine ⟨hrange, ?idempotent, fun hlow hhigh => clampWidth_of_inRange hlow hhigh, clampWidth_mono hok.wMin_le_wMax⟩
  exact_mod_cast clampWidth_of_inRange (Int.ofNat_le.mpr hrange.1) (Int.ofNat_le.mpr hrange.2)

/-! ### SCALE -/

/-- HALF is the integers' division that rounds toward zero (D17). -/
theorem half_eq_tdiv (d : Int) : half d = d.tdiv 2 := by
  rw [half, Int.tdiv_eq_ediv]
  rcases lt_trichotomy d 0 with hd | rfl | hd
  · rw [Int.sign_eq_neg_one_of_neg hd, Int.sign_eq_one_of_pos two_pos]
    omega
  · rfl
  · rw [Int.sign_eq_one_of_pos hd]
    omega

/-- Halving toward zero: twice the half is the number, or the number brought one nearer to zero. -/
theorem two_mul_tdiv_two (d : Int) :
    (0 ≤ d → 2 * d.tdiv 2 ≤ d ∧ d ≤ 2 * d.tdiv 2 + 1) ∧ (d ≤ 0 → d ≤ 2 * d.tdiv 2 ∧ 2 * d.tdiv 2 ≤ d + 1) := by
  rw [Int.tdiv_eq_ediv, Int.sign_eq_one_of_pos two_pos]
  omega

theorem scaleStick_eq (raw zero : Byte) : scaleStick raw zero = ((raw.toNat : Int) - zero.toNat).tdiv 2 := half_eq_tdiv _

/-- The odd symmetry of SCALE. -/
theorem scaleStick_swap (raw zero : Byte) : scaleStick zero raw = -scaleStick raw zero := by
  rw [scaleStick_eq, scaleStick_eq, ← Int.neg_sub, Int.neg_tdiv]

@[simp] theorem scaleStick_self (zero : Byte) : scaleStick zero zero = 0 := by simp [scaleStick_eq]

theorem exec_scale {s : State} (h : s.atBoundary = true) (raw zero : Byte) :
    exec (.scale raw zero) s = .next (s.setRet (.displacement (scaleStick raw zero))) :=
  whenIdle_of_atBoundary h fun s => .next (returnScale raw zero s)

/-- Settles O42: SCALE is the halved difference of two bytes. -/
theorem scaleResult : Obligations.ScaleResult := by
  intro s raw zero hb
  have hraw := raw.isLt
  have hzero := zero.isLt
  have hd := scaleStick_eq raw zero
  have hhalf := two_mul_tdiv_two ((raw.toNat : Int) - zero.toNat)
  refine ⟨scaleStick raw zero, exec_scale hb raw zero, hd, by omega, by omega, ?_, ?_⟩
  · rw [exec_scale hb, scaleStick_swap]
    rfl
  · rw [exec_scale hb, scaleStick_self]
    rfl

/-! ### The deadzone and MODE -/

theorem inDeadzone_iff {l : Literals} (hl : l = {}) (dx dy : Int) :
    inDeadzone l dx dy = true ↔ |dx| < 10 ∧ |dy| < 10 := by
  subst hl
  simp only [inDeadzone, Bool.and_eq_true, decide_eq_true_eq, Int.abs_eq_natAbs]
  omega

theorem inDeadzone_eq_false_iff {l : Literals} (hl : l = {}) (dx dy : Int) :
    inDeadzone l dx dy = false ↔ 10 ≤ |dx| ∨ 10 ≤ |dy| := by
  rw [← Bool.not_eq_true, inDeadzone_iff hl]
  omega

/-- Rounding toward zero, a displacement is below ten exactly when the raw difference is below twenty. -/
theorem abs_scaleStick_lt_ten (raw zero : Byte) : |scaleStick raw zero| < 10 ↔ |(raw.toNat : Int) - zero.toNat| ≤ 19 := by
  have hhalf := two_mul_tdiv_two ((raw.toNat : Int) - zero.toNat)
  rw [scaleStick_eq, abs_lt, abs_le]
  omega

/-- Settles O43: on each axis, below ten in magnitude is -9..9 scaled and -19..19 raw. -/
theorem deadzoneIsTheOpenSquare : Obligations.DeadzoneIsTheOpenSquare := by
  intro l hl
  refine ⟨?square, inDeadzone_eq_false_iff hl, ?raw⟩
  case square =>
    intro dx dy
    rw [inDeadzone_iff hl, abs_lt, abs_lt]
    omega
  case raw =>
    intro x x0 y y0
    rw [inDeadzone_iff hl, abs_scaleStick_lt_ten, abs_scaleStick_lt_ten]

theorem exec_mode {s : State} (h : s.atBoundary = true) (btn : Code2) (dx dy : Int) :
    exec (.mode btn dx dy) s = .next (s.setRet (.mode (modeOf s.cfg btn dx dy))) :=
  whenIdle_of_atBoundary h fun s => .next (returnMode btn dx dy s)

theorem modeOf_eq_rotate_iff (c : Config) (btn : Code2) (dx dy : Int) :
    modeOf c btn dx dy = .rotate ↔ btn = c.btn.z ∧ inDeadzone c.lit dx dy = false := by
  unfold modeOf
  split_ifs with hz ht
  · simp [hz]
  · simp [hz]
  · simp [hz]

theorem modeOf_eq_translate_iff {c : Config} (h : c.btn.Injective) (btn : Code2) (dx dy : Int) :
    modeOf c btn dx dy = .translate ↔ (btn = c.btn.none ∨ btn = c.btn.c) ∧ inDeadzone c.lit dx dy = false := by
  obtain ⟨hnz, hnc, hnb, hzc, hzb, hcb⟩ := h
  unfold modeOf
  split_ifs with hz ht
  · simp [hz, hnz.symm, hzc]
  · simp [ht]
  · simp only [false_iff]
    exact fun h => ht h.symm

/-- In the deadzone the mode is Neutral, whatever the buttons. -/
theorem modeOf_of_inDeadzone {c : Config} {dx dy : Int} (h : inDeadzone c.lit dx dy = true) (btn : Code2) :
    modeOf c btn dx dy = .neutral := by
  simp [modeOf, h]

theorem modeOf_both {c : Config} (h : c.btn.Injective) (dx dy : Int) : modeOf c c.btn.both dx dy = .neutral := by
  obtain ⟨_, _, hnb, _, hzb, hcb⟩ := h
  simp [modeOf, hnb.symm, hzb.symm, hcb.symm]

/-- Settles O44: the two iffs of `modeOf`, the deadzone's complement written out. -/
theorem modeResult : Obligations.ModeResult := by
  intro s btn dx dy hok hb
  refine ⟨_, exec_mode hb btn dx dy, ?rotate, ?translate, ?both⟩
  case rotate => rw [modeOf_eq_rotate_iff, inDeadzone_eq_false_iff hok.lit_default]
  case translate => rw [modeOf_eq_translate_iff hok.btn_injective, inDeadzone_eq_false_iff hok.lit_default]
  case both =>
    rintro rfl
    exact modeOf_both hok.btn_injective dx dy

/-! ### MAP -/

theorem mapWidth_of_inDeadzone {c : Config} {dx dy : Int} (h : inDeadzone c.lit dx dy = true) (m : Mode) (i : Channel) :
    mapWidth c dx dy m i = c.center[i] := by
  simp [mapWidth, h]

@[simp] theorem mapWidth_neutral (c : Config) (dx dy : Int) (i : Channel) : mapWidth c dx dy .neutral i = c.center[i] := by
  simp [mapWidth]

theorem mapWidth_translate {c : Config} {dx dy : Int} (h : inDeadzone c.lit dx dy = false) (i : Channel) :
    mapWidth c dx dy .translate i = clampWidth c (signOf c.fwd[i] * dy + signOf c.str[i] * dx + c.center[i]) := by
  simp [mapWidth, h]

theorem mapWidth_rotate {c : Config} {dx dy : Int} (h : inDeadzone c.lit dx dy = false) (i : Channel) :
    mapWidth c dx dy .rotate i = clampWidth c (signOf c.rot[i] * dx + c.center[i]) := by
  simp [mapWidth, h]

@[simp] theorem getElem_mapWidths (c : Config) (dx dy : Int) (m : Mode) (i : Channel) :
    (mapWidths c dx dy m)[i] = mapWidth c dx dy m i := by
  simp [mapWidths]

theorem mapWidth_inRange {c : Config} (h : c.Ok) (dx dy : Int) (m : Mode) (i : Channel) :
    c.InRange (mapWidth c dx dy m i) := by
  unfold mapWidth
  split
  · exact h.center_range i
  · cases m with
    | translate => exact clampWidth_inRange h.wMin_le_wMax _
    | rotate => exact clampWidth_inRange h.wMin_le_wMax _
    | neutral => exact h.center_range i

/-- In the deadzone MAP gives the four centres. -/
theorem mapWidths_of_inDeadzone {c : Config} {dx dy : Int} (h : inDeadzone c.lit dx dy = true) (m : Mode) :
    mapWidths c dx dy m = c.center := by
  apply Vector.ext
  intro i hi
  exact (getElem_mapWidths c dx dy m ⟨i, hi⟩).trans (mapWidth_of_inDeadzone h m ⟨i, hi⟩)

theorem exec_map {s : State} (h : s.atBoundary = true) (dx dy : Int) (m : Mode) :
    exec (.map dx dy m) s = .next (s.setRet (.widths (mapWidths s.cfg dx dy m))) :=
  whenIdle_of_atBoundary h fun s => .next (returnMap dx dy m s)

/-- Settles O45: `mapWidth` in each branch, for each channel. -/
theorem mapResult : Obligations.MapResult := by
  refine ⟨⟨rfl, rfl⟩, ?_⟩
  intro s dx dy m hok hb
  refine ⟨_, exec_map hb dx dy m, fun i => ?_⟩
  rw [getElem_mapWidths]
  constructor
  · intro hx hy
    exact mapWidth_of_inDeadzone ((inDeadzone_iff hok.lit_default dx dy).mpr ⟨hx, hy⟩) m i
  · intro hout
    have hdead := (inDeadzone_eq_false_iff hok.lit_default dx dy).mpr hout
    refine ⟨?_, ?_, ?_⟩
    · rintro rfl
      exact mapWidth_translate hdead i
    · rintro rfl
      exact mapWidth_rotate hdead i
    · rintro rfl
      exact mapWidth_neutral s.cfg dx dy i

theorem abs_signOf_mul (g : Sign) (d : Int) : |signOf g * d| = |d| := by
  cases g <;> simp [signOf]

/-- An offset within the room on both sides of the centre is not clamped. -/
theorem abs_clampWidth_sub_center {c : Config} {i : Channel} {e : Int} (hlow : (c.wMin : Int) ≤ c.center[i] - |e|)
    (hhigh : (c.center[i] : Int) + |e| ≤ c.wMax) : |(clampWidth c (e + c.center[i]) : Int) - c.center[i]| = |e| := by
  have hneg := neg_abs_le e
  have hpos := le_abs_self e
  rw [clampWidth_of_inRange (by omega) (by omega), add_sub_cancel_right]

/-- Settles O46: every branch of MAP is a centre or a clamp, Rotate does not read dy, and a sign keeps the magnitude. -/
theorem mapLaws : Obligations.MapLaws := by
  intro c hok
  refine ⟨mapWidth_inRange hok, ?rotate, ?magnitude⟩
  case rotate =>
    intro dx dy dy' i h h'
    rw [mapWidth_rotate h, mapWidth_rotate h']
  case magnitude =>
    intro d hd hroom i
    obtain ⟨hlow, hhigh⟩ := hroom i
    have hforward := (inDeadzone_eq_false_iff hok.lit_default 0 d).mpr (.inr hd)
    have hstrafe := (inDeadzone_eq_false_iff hok.lit_default d 0).mpr (.inl hd)
    have hf := abs_signOf_mul c.fwd[i] d
    have hs := abs_signOf_mul c.str[i] d
    rw [mapWidth_translate hforward, mapWidth_translate hstrafe, mul_zero, add_zero, mul_zero, zero_add]
    rw [← hf] at hlow hhigh
    refine ⟨(abs_clampWidth_sub_center hlow hhigh).trans hf, ?_⟩
    rw [hf, ← hs] at hlow hhigh
    exact (abs_clampWidth_sub_center hlow hhigh).trans hs

end Sys2Proof.Machine
end

section
/-!
PROOFS. The invariant, its scheduler half (10_state.md R22, R30, R36; 42_pulse_scheduler.md R183, R189, R194): kept by the event
and by the foreground's four operations.
-/

namespace Sys2Proof.Machine

/-- The conditions of the invariant that speak of the configuration and of the scheduler's half. -/
structure SchedulerInv (s : State) : Prop where
  config   : s.cfg.Ok
  targets  : ∀ i : Channel, s.cfg.InRange s.target[i]
  outputs  : ∀ i : Channel, s.out[i] = .active ↔ s.phase.channel = some i
  tickFits : s.tick < 2 ^ s.cfg.tickBits
  armed    : s.ie = true → s.armed = true
  inert    : s.ie = false → s.pulse = [] ∧ s.tick = 0
  pulses   : ∀ p ∈ s.pulse, p.Legal s.cfg
  compare  : ∀ p, s.pulse.getLast? = some p → s.cmp = p.count
  trace    : PulseOrder s

theorem State.Inv.scheduler {s : State} (h : s.Inv) : SchedulerInv s :=
  ⟨h.config, h.targets, h.outputs, h.tickFits, h.armed, h.inert, h.pulses, h.compare, h.trace⟩

theorem PulseOrder.of_eq {s t : State} (h : PulseOrder s) (hpulse : t.pulse = s.pulse) (hphase : t.phase = s.phase) :
    PulseOrder t := by
  obtain ⟨first, order, last, empty⟩ := h
  constructor
  · rwa [hpulse]
  · rwa [hpulse]
  · rwa [hpulse, hphase]
  · rwa [hpulse, hphase]

theorem SchedulerInv.of_sameScheduler {s t : State} (h : SchedulerInv s) (same : SameScheduler s t) : SchedulerInv t := by
  obtain ⟨cfg, target, phase, out, ie, armed, cmp, tick, pulse⟩ := same
  exact {
    config := by rw [cfg]; exact h.config
    targets := by rw [cfg, target]; exact h.targets
    outputs := by rw [out, phase]; exact h.outputs
    tickFits := by rw [cfg, tick]; exact h.tickFits
    armed := by rw [ie, armed]; exact h.armed
    inert := by rw [ie, pulse, tick]; exact h.inert
    pulses := by rw [cfg, pulse]; exact h.pulses
    compare := by rw [cmp, pulse]; exact h.compare
    trace := h.trace.of_eq pulse phase }

/-! ### The event -/

@[simp] theorem outputsInactive_getElem (i : Nat) (h : i < numChannels) : outputsInactive[i] = .inactive := by
  simp [outputsInactive]

theorem assertOutput_getElem (k i : Channel) : (assertOutput k outputsInactive)[i] = .active ↔ k = i := by
  simp [assertOutput, Vector.getElem_set, Fin.ext_iff]

/-- The outputs an enabled event leaves are those of the phase it enters (R30). -/
theorem compareEvent_outputs {s : State} (h : s.interruptEnabled = true) (i : Channel) :
    (compareEvent s).out[i] = .active ↔ (compareEvent s).phase.channel = some i := by
  cases hk : s.phase.succ.channel with
  | some k =>
    rw [compareEvent_pulse h hk]
    simp only [enterPulse, hk, Option.some.injEq]
    exact assertOutput_getElem k i
  | none =>
    rw [compareEvent_gap h hk]
    simp [enterGap, Phase.channel]

/-- The interval an enabled event programs is legal, if every target is in range (R194). -/
theorem compareEvent_legal {s : State} (h : s.interruptEnabled = true) (htargets : ∀ i : Channel, s.cfg.InRange s.target[i]) :
    Pulse.Legal s.cfg { phase := s.phase.succ, count := (compareEvent s).cmp } := by
  cases hk : s.phase.succ.channel with
  | some k =>
    have hgap : s.phase.succ ≠ .gap := fun e => by simp [e, Phase.channel] at hk
    rw [compareEvent_pulse h hk, Pulse.Legal, if_neg hgap]
    exact htargets k
  | none =>
    rw [compareEvent_gap h hk, Pulse.Legal, if_pos ((channel_eq_none_iff _).mp hk)]
    rfl

/-- The record an enabled event appends goes on with the cycle (R189, R192). -/
theorem compareEvent_pulseOrder {s : State} (h : s.interruptEnabled = true) (horder : PulseOrder s) :
    PulseOrder (compareEvent s) := by
  obtain ⟨hphase, hpulse, _⟩ := compareEvent_enabled h
  constructor
  case first =>
    intro p hp
    rw [hpulse, List.head?_append] at hp
    cases hhead : s.pulse.head? with
    | some q =>
      rw [hhead] at hp
      cases hp
      exact horder.first _ hhead
    | none =>
      rw [hhead] at hp
      cases hp
      rw [horder.empty (List.head?_eq_none_iff.mp hhead)]
      rfl
  case order =>
    rw [hpulse, List.isChain_append]
    refine ⟨horder.order, by simp, ?_⟩
    intro x hx y hy
    cases hy
    rw [horder.last x hx]
  case last =>
    intro p hp
    rw [hpulse, List.getLast?_concat] at hp
    cases hp
    exact hphase.symm
  case empty =>
    intro hempty
    simp [hpulse] at hempty

theorem SchedulerInv.compareEvent {s : State} (h : SchedulerInv s) : SchedulerInv (compareEvent s) := by
  cases hen : s.interruptEnabled with
  | false => rwa [compareEvent_disabled hen]
  | true =>
    obtain ⟨hphase, hpulse, htick⟩ := compareEvent_enabled hen
    have hframe := compareEvent_eq s
    have htarget : (Machine.compareEvent s).target = s.target := by rw [hframe]
    have hie : (Machine.compareEvent s).ie = s.ie := by rw [hframe]
    have harmed : (Machine.compareEvent s).armed = s.armed := by rw [hframe]
    constructor
    case config => rw [compareEvent_cfg]; exact h.config
    case targets => rw [compareEvent_cfg, htarget]; exact h.targets
    case outputs => exact compareEvent_outputs hen
    case tickFits =>
      rw [compareEvent_cfg, htick]
      split
      · exact Nat.mod_lt _ (Nat.two_pow_pos _)
      · exact h.tickFits
    case armed => rw [hie, harmed]; exact h.armed
    case inert =>
      rw [hie, ((interruptEnabled_iff s).mp hen).2]
      nofun
    case pulses =>
      rw [compareEvent_cfg, hpulse]
      intro p hp
      rcases List.mem_append.mp hp with hp | hp
      · exact h.pulses p hp
      · rw [List.mem_singleton.mp hp]
        exact compareEvent_legal hen h.targets
    case compare =>
      rw [hpulse, List.getLast?_concat]
      rintro p ⟨⟩
      rfl
    case trace => exact compareEvent_pulseOrder hen h.trace

/-! ### The foreground's operations -/

/-- SCHED_INIT finds the scheduler inert, in Gap and with no pulse emitted, and leaves it so. -/
theorem SchedulerInv.initScheduler {s t : State} (hs : SchedulerInv s) (h : Machine.initScheduler s = .next t) :
    SchedulerInv t := by
  obtain ⟨hie, rfl⟩ := initScheduler_eq_next h
  obtain ⟨hpulse, _⟩ := hs.inert hie
  exact {
    config := hs.config
    targets := hs.targets
    outputs := fun i => by simp [Phase.channel]
    tickFits := Nat.two_pow_pos _
    armed := fun _ => rfl
    inert := fun _ => ⟨hpulse, rfl⟩
    pulses := hs.pulses
    compare := hs.compare
    trace := hs.trace.of_eq rfl (hs.trace.empty hpulse).symm }

theorem SchedulerInv.enableScheduler {s t : State} (hs : SchedulerInv s) (h : Machine.enableScheduler s = .next t) :
    SchedulerInv t := by
  obtain ⟨harmed, rfl⟩ := enableScheduler_eq_next h
  exact { hs with
    armed := fun _ => harmed
    inert := nofun
    trace := hs.trace.of_eq rfl rfl }

theorem SchedulerInv.storeTarget {i w : Nat} {s t : State} (hs : SchedulerInv s) (h : Machine.storeTarget i w s = .next t) :
    SchedulerInv t := by
  obtain ⟨hi, hw, rfl⟩ := storeTarget_eq_next h
  refine { hs with targets := ?_, trace := hs.trace.of_eq rfl rfl }
  intro j
  by_cases hij : i = j.val
  · subst hij
    simpa using hw
  · simpa [Vector.getElem_set_ne, hij] using hs.targets j

theorem SchedulerInv.clearTick {s : State} (hs : SchedulerInv s) : SchedulerInv (s.setTick 0) :=
  { hs with
    tickFits := Nat.two_pow_pos _
    inert := fun hie => ⟨(hs.inert hie).1, rfl⟩
    trace := hs.trace.of_eq rfl rfl }

theorem SchedulerInv.of_schedulerWrite {s t : State} (hs : SchedulerInv s) (h : SchedulerWrite s t) : SchedulerInv t := by
  cases h with
  | init h same => exact (hs.initScheduler h).of_sameScheduler same
  | enable h same => exact (hs.enableScheduler h).of_sameScheduler same
  | store h same => exact (hs.storeTarget h).of_sameScheduler same
  | clear same => exact hs.clearTick.of_sameScheduler same
  | none same => exact hs.of_sameScheduler same

theorem SchedulerInv.takeTurn {turn : Turn} {s t : State} (hs : SchedulerInv s) (h : Machine.takeTurn turn s = .next t) :
    SchedulerInv t := by
  rcases takeTurn_scheduler h with rfl | hwrite
  · exact hs.compareEvent
  · exact hs.of_schedulerWrite hwrite

end Sys2Proof.Machine
end

section
/-!
PROOFS. The invariant, its foreground half (41_sensor_client.md R160; 40_bus_transport.md R133; 43_reference_host.md R221 to
R229): where a running sequence stands, kept by Issue, Complete, the sequence's own steps and the reference host's. With the
scheduler half, every step keeps the invariant.
-/

namespace Sys2Proof.Machine

/-! ### Lists of sequence steps -/

theorem openAfter_eq_foldl (l : List SeqStep) : openAfter l = l.foldl openStep false := rfl

theorem openAfter_concat (l : List SeqStep) (x : SeqStep) : openAfter (l ++ [x]) = openStep (openAfter l) x := by
  simp only [openAfter_eq_foldl, List.foldl_append, List.foldl_cons, List.foldl_nil]

/-- The reads among a list of steps, counted in the bytes they leave. -/
theorem readsIn_concat (d : Ack × Byte) (l : List SeqStep) (x : SeqStep) :
    readsIn (l ++ [x]) = readsIn l + (byteOf d x).length := by
  have hx : readsIn [x] = (byteOf d x).length := by
    cases x with
    | prim p => cases p <;> rfl
    | delay => rfl
  rw [← hx]
  exact List.countP_append

theorem take_succ_of_getElem? {α : Type} {l : List α} {n : Nat} {x : α} (h : l[n]? = some x) :
    l.take (n + 1) = l.take n ++ [x] := by
  rw [List.take_add_one, h, Option.toList_some]

/-! ### Complete, when a sequence runs -/

/-- A primitive that completes inside a sequence: its symbol on WIRE, the byte it read kept. -/
theorem complete_of_sequence {s : State} {p : Prim} {r : SeqRun} (hp : s.pending = some p) (hs : s.seq = some r) (a : Ack)
    (v : Byte) : complete a v s = { s with
      pending := none
      busOpen := openStep s.busOpen (.prim p)
      wire := s.wire ++ [wireOf (a, v) (.prim p)]
      seq := some { r with got := r.got ++ byteOf (a, v) (.prim p) } } := by
  cases p with
  | start => simp [complete_start hp, State.setPending, State.logWire, State.setBusOpen, openStep, wireOf, byteOf, hs]
  | stop => simp [complete_stop hp, State.setPending, State.logWire, State.setBusOpen, openStep, wireOf, byteOf, hs]
  | write b =>
    simp [complete_write hp, deliver_ack (run := r), State.setPending, State.logWire, openStep, wireOf, byteOf, hs]
  | read k =>
    simp [complete_read hp, deliver_byte (run := r), State.setPending, State.logWire, State.setSeq, openStep, wireOf, byteOf,
      hs]

/-! ### Where a running sequence stands -/

theorem completedSteps_of_none {s : State} {r : SeqRun} (h : s.pending = none) : completedSteps s r = r.pos := by
  simp [completedSteps, h]

theorem completedSteps_of_some {s : State} {r : SeqRun} {p : Prim} (h : s.pending = some p) :
    completedSteps s r = r.pos - 1 := by
  simp [completedSteps, h]

/-- With nothing in flight every step issued has completed. -/
theorem SeqAt.done {s : State} {r : SeqRun} (h : SeqAt s r) (hp : s.pending = none) :
    s.busOpen = openAfter ((r.name.steps s.cfg.lit).take r.pos) ∧
    r.got.length = readsIn ((r.name.steps s.cfg.lit).take r.pos) := by
  have hopen := h.isOpen
  have hbytes := h.bytes
  rw [completedSteps_of_none hp] at hopen hbytes
  exact ⟨hopen, hbytes⟩

theorem seqAt_of_done {s : State} {r : SeqRun} {l : List SeqStep} (hp : s.pending = none)
    (hle : r.pos ≤ (r.name.steps s.cfg.lit).length) (hl : (r.name.steps s.cfg.lit).take r.pos = l)
    (hopen : s.busOpen = openAfter l) (hbytes : r.got.length = readsIn l) : SeqAt s r where
  pos_le := hle
  inFlight p h := by simp [hp] at h
  isOpen := by rw [completedSteps_of_none hp, hl, hopen]
  bytes := by rw [completedSteps_of_none hp, hl, hbytes]

/-- A sequence just entered, with no frame open. -/
theorem seqAt_entered {s : State} (n : SeqName) (hp : s.pending = none) (hb : s.busOpen = false) :
    SeqAt s { name := n, pos := 0, got := [] } :=
  seqAt_of_done hp (Nat.zero_le _) List.take_zero hb rfl

theorem SeqRun.pos_lt_of_next {l : Literals} {r : SeqRun} {x : SeqStep} (h : r.next l = some x) :
    r.pos < (r.name.steps l).length := (List.getElem?_eq_some_iff.mp h).1

/-- Issue of the sequence's next primitive: one step more issued, as many completed as before. -/
theorem SeqAt.issued {s : State} {r : SeqRun} {p : Prim} (h : SeqAt s r) (hp : s.pending = none)
    (hx : r.next s.cfg.lit = some (.prim p)) :
    SeqAt ((s.setSeq (some { r with pos := r.pos + 1 })).setPending (some p)) { r with pos := r.pos + 1 } where
  pos_le := SeqRun.pos_lt_of_next hx
  inFlight q hq := by
    cases hq
    exact ⟨Nat.succ_pos _, hx⟩
  isOpen := by
    rw [completedSteps_of_some rfl]
    exact (h.done hp).1
  bytes := by
    rw [completedSteps_of_some rfl]
    exact (h.done hp).2

/-- A settle delay is issued and completed in one step, and neither opens a frame nor reads. -/
theorem SeqAt.delayed {s : State} {r : SeqRun} (h : SeqAt s r) (hp : s.pending = none) (hx : r.next s.cfg.lit = some .delay) :
    SeqAt ((s.setSeq (some { r with pos := r.pos + 1 })).logWire .delay) { r with pos := r.pos + 1 } := by
  obtain ⟨hopen, hbytes⟩ := h.done hp
  refine seqAt_of_done hp (SeqRun.pos_lt_of_next hx) (take_succ_of_getElem? hx) ?_ ?_
  · rw [openAfter_concat]
    exact hopen
  · rw [readsIn_concat (.ack, 0)]
    exact hbytes

/-- Complete of the primitive in flight: one step more completed, its byte kept if it was a read. -/
theorem SeqAt.completed {s : State} {r : SeqRun} {p : Prim} (h : SeqAt s r) (hp : s.pending = some p) (hs : s.seq = some r)
    (a : Ack) (v : Byte) :
    SeqAt (complete a v s) { r with got := r.got ++ byteOf (a, v) (.prim p) } := by
  obtain ⟨hpos, hstep⟩ := h.inFlight p hp
  have hopen := h.isOpen
  have hbytes := h.bytes
  rw [completedSteps_of_some hp] at hopen hbytes
  have htake := take_succ_of_getElem? hstep
  rw [Nat.sub_add_cancel hpos] at htake
  rw [complete_of_sequence hp hs]
  refine seqAt_of_done rfl h.pos_le htake ?_ ?_
  · rw [openAfter_concat, ← hopen]
  · rw [readsIn_concat (a, v), List.length_append, hbytes]

/-- A sequence with no step left to issue and nothing in flight has completed its whole list. -/
theorem SeqAt.all_completed {s : State} {r : SeqRun} (h : SeqAt s r) (hp : s.pending = none) (hx : r.next s.cfg.lit = none) :
    s.busOpen = openAfter (r.name.steps s.cfg.lit) ∧ r.got.length = readsIn (r.name.steps s.cfg.lit) := by
  have hdone := h.done hp
  rwa [List.take_of_length_le (List.getElem?_eq_none_iff.mp hx)] at hdone

/-! ### The conditions of the invariant on the foreground -/

/-- What those conditions read is the same in two states. -/
structure SameForeground (s t : State) : Prop where
  cfg     : t.cfg = s.cfg
  pending : t.pending = s.pending
  seq     : t.seq = s.seq
  busOpen : t.busOpen = s.busOpen
  pos     : t.pos = s.pos
  widths  : t.widths = s.widths

/-- The conditions of the invariant that speak of the bus, the sequence and the reference host, with the configuration's. -/
structure ForegroundInv (s : State) : Prop where
  config    : s.cfg.Ok
  inFlight  : ∀ p, s.pending = some p → s.busOpen = p.needsOpen
  sequence  : ∀ r, s.seq = some r → SeqAt s r
  procedure : s.seq = none → (∀ p, s.pos ≠ .ready p) → s.busOpen = false ∧ s.pending = none
  called    : ∀ r, s.seq = some r → (∃ p, s.pos = .ready p) ∨ s.pos = .bootSched ∨ s.pos = .waitTest ∨ s.pos = .cycleJudge
  stored    : ∀ k, s.pos = .cycleStore k → ∀ i : Channel, s.cfg.InRange s.widths[i]

theorem State.Inv.foreground {s : State} (h : s.Inv) : ForegroundInv s :=
  ⟨h.config, h.inFlight, h.sequence, h.procedure, h.called, h.stored⟩

theorem State.Inv.of_halves {s : State} (h : SchedulerInv s) (h' : ForegroundInv s) : s.Inv :=
  ⟨h.config, h.targets, h.outputs, h.tickFits, h.armed, h.inert, h.pulses, h.compare, h.trace, h'.inFlight, h'.sequence,
    h'.procedure, h'.called, h'.stored⟩

namespace ForegroundInv

theorem of_sameForeground {s t : State} (h : ForegroundInv s) (same : SameForeground s t) : ForegroundInv t := by
  obtain ⟨cfg, pending, seq, busOpen, pos, widths⟩ := same
  constructor
  case config => rw [cfg]; exact h.config
  case inFlight => rw [pending, busOpen]; exact h.inFlight
  case sequence =>
    intro r hr
    obtain ⟨pos_le, inFlight, isOpen, bytes⟩ := h.sequence r (by rw [← seq, hr])
    have hcompleted : completedSteps t r = completedSteps s r := by simp only [completedSteps, pending]
    exact ⟨by rwa [cfg], by rwa [pending, cfg], by rwa [busOpen, hcompleted, cfg], by rwa [hcompleted, cfg]⟩
  case procedure => rw [seq, pos, busOpen, pending]; exact h.procedure
  case called => rw [seq, pos]; exact h.called
  case stored => rw [pos, cfg, widths]; exact h.stored

/-- Between two operations of a host the frame may be open or closed, and a primitive of the host's may be in flight. -/
theorem of_ready {s : State} {p : Proc} (hok : s.cfg.Ok) (hs : s.seq = none) (hpos : s.pos = .ready p)
    (hflight : ∀ p, s.pending = some p → s.busOpen = p.needsOpen) : ForegroundInv s where
  config := hok
  inFlight := hflight
  sequence r hr := by simp [hs] at hr
  procedure _ hne := absurd hpos (hne p)
  called r hr := by simp [hs] at hr
  stored k hk := by simp [hpos] at hk

/-- Outside any sequence, with no frame open and nothing in flight, the host may be at any position. -/
theorem of_closed {s : State} (hok : s.cfg.Ok) (hp : s.pending = none) (hs : s.seq = none) (hb : s.busOpen = false)
    (hstored : ∀ k, s.pos = .cycleStore k → ∀ i : Channel, s.cfg.InRange s.widths[i]) : ForegroundInv s where
  config := hok
  inFlight p h := by simp [hp] at h
  sequence r hr := by simp [hs] at hr
  procedure _ _ := ⟨hb, hp⟩
  called r hr := by simp [hs] at hr
  stored := hstored

/-- A sequence just entered, by a presented word or by the procedure that calls it. -/
theorem of_entered {s : State} {n : SeqName} (hok : s.cfg.Ok) (hp : s.pending = none) (hb : s.busOpen = false)
    (hs : s.seq = some { name := n, pos := 0, got := [] })
    (hcalled : (∃ p, s.pos = .ready p) ∨ s.pos = .bootSched ∨ s.pos = .waitTest ∨ s.pos = .cycleJudge) :
    ForegroundInv s where
  config := hok
  inFlight p h := by simp [hp] at h
  sequence r hr := by
    rw [hs] at hr
    cases hr
    exact seqAt_entered n hp hb
  procedure hn := by simp [hs] at hn
  called _ _ := hcalled
  stored k hk := by simp [hk] at hcalled

/-! ### The operations -/

/-- A host's primitive, issued between operations. -/
theorem issue {s t : State} {p : Prim} (h : ForegroundInv s) (hb : s.atBoundary = true) (hi : Machine.issue p s = .next t) :
    ForegroundInv t := by
  obtain ⟨_, hs, q, hpos⟩ := (atBoundary_iff s).mp hb
  obtain ⟨_, hopen, rfl⟩ := issue_eq_next hi
  refine of_ready h.config hs hpos ?_
  rintro _ ⟨⟩
  exact hopen

/-- A sequence, entered at a position that may call it. -/
theorem enterSequence {s t : State} {n : SeqName} (h : ForegroundInv s)
    (hcalled : (∃ p, s.pos = .ready p) ∨ s.pos = .bootSched ∨ s.pos = .waitTest ∨ s.pos = .cycleJudge)
    (he : Machine.enterSequence n s = .next t) : ForegroundInv t := by
  obtain ⟨hp, hopen, rfl⟩ := enterSequence_eq_next he
  exact of_entered h.config hp hopen rfl hcalled

/-- A sequence, entered by the procedure that goes on at position `q` when it has returned. -/
theorem enterSequence_setPos {s t : State} {n : SeqName} {q : HostPos} (h : ForegroundInv s)
    (hcalled : q = .bootSched ∨ q = .waitTest ∨ q = .cycleJudge)
    (he : mapNext (Machine.enterSequence n s) (State.setPos q) = .next t) : ForegroundInv t := by
  obtain ⟨u, hu, rfl⟩ := mapNext_eq_next he
  obtain ⟨hp, hopen, rfl⟩ := enterSequence_eq_next hu
  exact of_entered h.config hp hopen rfl (.inr hcalled)

/-- The sequence's own step; where it returns, its whole list has completed and so no frame is open. -/
theorem stepSequence {s t : State} {r : SeqRun} (h : ForegroundInv s) (hp : s.pending = none) (hs : s.seq = some r)
    (ht : Machine.stepSequence r s = .next t) : ForegroundInv t := by
  have hat := h.sequence r hs
  obtain ⟨p, hx, _, hopen, rfl⟩ | ⟨hx, _, rfl⟩ | ⟨hx, hfinish⟩ := stepSequence_eq_next ht
  · exact {
      config := h.config
      inFlight := by rintro _ ⟨⟩; exact hopen
      sequence := by rintro _ ⟨⟩; exact hat.issued hp hx
      procedure := nofun
      called := fun _ _ => h.called r hs
      stored := h.stored }
  · exact {
      config := h.config
      inFlight := fun p hq => by simp [hp] at hq
      sequence := by rintro _ ⟨⟩; exact hat.delayed hp hx
      procedure := nofun
      called := fun _ _ => h.called r hs
      stored := h.stored }
  · have hclosed : s.busOpen = false :=
      (hat.all_completed hp hx).1.trans (steps_close_of_ok h.config r.name)
    obtain ⟨_, rfl⟩ | ⟨_, _, _, rfl⟩ := finishSequence_eq_next hfinish
    · exact of_closed h.config hp rfl hclosed h.stored
    · exact of_closed h.config hp rfl hclosed h.stored

theorem complete {s : State} (h : ForegroundInv s) (a : Ack) (v : Byte) : ForegroundInv (complete a v s) := by
  cases hp : s.pending with
  | none => rwa [complete_none hp]
  | some p =>
    cases hs : s.seq with
    | some r =>
      have hat := (h.sequence r hs).completed hp hs a v
      rw [complete_of_sequence hp hs] at hat ⊢
      exact {
        config := h.config
        inFlight := nofun
        sequence := by rintro _ ⟨⟩; exact hat
        procedure := nofun
        called := fun _ _ => h.called r hs
        stored := h.stored }
    | none =>
      have hready : ∃ q, s.pos = .ready q := by
        by_contra hne
        simpa [hp] using (h.procedure hs (not_exists.mp hne)).2
      obtain ⟨q, hpos⟩ := hready
      have hseq : (Machine.complete a v s).seq = none := by
        cases p <;> simp [Machine.complete, hp, hs]
      refine of_ready (by rw [complete_cfg]; exact h.config) hseq (p := q) ?_ ?_
      · rw [complete_eq]
        exact hpos
      · simp

theorem transfer {s t : State} {p : Prim} {a : Ack} {v : Byte} (h : ForegroundInv s)
    (ht : Machine.transfer p a v s = .next t) : ForegroundInv t := by
  obtain ⟨u, hu, rfl⟩ := transfer_eq_next ht
  obtain ⟨_, rfl⟩ | ⟨r, hs, hp, _, hstep⟩ | ⟨hb, hi⟩ := putInFlight_eq_next hu
  · exact h.complete a v
  · exact (h.stepSequence hp hs hstep).complete a v
  · exact (h.issue hb hi).complete a v

theorem transferSent {s t : State} {b : Byte} (h : ForegroundInv s) (ht : Machine.transferSent b s = .next t) :
    ForegroundInv t := by
  obtain ⟨u, hu, rfl⟩ := mapNext_eq_next ht
  exact (h.transfer hu).of_sameForeground ⟨rfl, rfl, rfl, rfl, rfl, rfl⟩

theorem transferAllSent {l : List Byte} {s t : State} (h : ForegroundInv s) (ht : Machine.transferAllSent l s = .next t) :
    ForegroundInv t := by
  induction l generalizing s with
  | nil =>
    cases ht
    exact h
  | cons b l ih =>
    obtain ⟨u, hu, hv⟩ := andThen_eq_next ht
    exact ih (h.transferSent hu) hv

/-! ### Instructions -/

theorem exec {i : Instr} {s t : State} (h : ForegroundInv s) (ht : Machine.exec i s = .next t) : ForegroundInv t := by
  cases i <;> simp only [Machine.exec] at ht
  case busInit =>
    obtain ⟨hb, hk⟩ := whenIdle_eq_next ht
    obtain ⟨_, hs, p, hpos⟩ := (atBoundary_iff s).mp hb
    cases hk
    exact of_ready h.config hs hpos nofun
  case start | stop | writeByte | readByte =>
    obtain ⟨hb, hi⟩ := whenIdle_eq_next ht
    exact h.issue hb hi
  case delaySettle =>
    obtain ⟨_, hsettle⟩ := whenIdle_eq_next ht
    obtain ⟨_, rfl⟩ := settle_eq_next hsettle
    exact h.of_sameForeground ⟨rfl, rfl, rfl, rfl, rfl, rfl⟩
  case sensorInit | requestSample | readSample =>
    obtain ⟨hb, he⟩ := whenIdle_eq_next ht
    exact h.enterSequence (.inl ((atBoundary_iff s).mp hb).2.2) he
  case schedInit =>
    obtain ⟨_, rfl⟩ := initScheduler_eq_next (whenIdle_eq_next ht).2
    exact h.of_sameForeground ⟨rfl, rfl, rfl, rfl, rfl, rfl⟩
  case schedEnable =>
    obtain ⟨_, rfl⟩ := enableScheduler_eq_next (whenIdle_eq_next ht).2
    exact h.of_sameForeground ⟨rfl, rfl, rfl, rfl, rfl, rfl⟩
  case setTarget =>
    obtain ⟨_, _, rfl⟩ := storeTarget_eq_next (whenIdle_eq_next ht).2
    exact h.of_sameForeground ⟨rfl, rfl, rfl, rfl, rfl, rfl⟩
  case compareMatch =>
    cases ht
    rw [compareEvent_eq]
    exact h.of_sameForeground ⟨rfl, rfl, rfl, rfl, rfl, rfl⟩
  case getTick | clrTick | clamp | scale | mode | map =>
    obtain ⟨_, hk⟩ := whenIdle_eq_next ht
    cases hk
    exact h.of_sameForeground ⟨rfl, rfl, rfl, rfl, rfl, rfl⟩
  case boot =>
    obtain ⟨hb, hk⟩ := whenIdle_eq_next ht
    obtain ⟨_, hs, _⟩ := (atBoundary_iff s).mp hb
    cases hk
    exact of_closed h.config rfl hs rfl nofun
  case waitStart => exact h.enterSequence_setPos (.inr (.inl rfl)) (whenIdle_eq_next ht).2
  case cycle => exact h.enterSequence_setPos (.inr (.inr rfl)) (whenIdle_eq_next ht).2
  case wireByte =>
    unfold execWireByte at ht
    split at ht
    · split at ht
      · exact h.transfer ht
      · cases ht
    · split at ht
      · exact h.transfer ht
      · cases ht
    all_goals cases ht
  case wireAddrW | wireAddrR => exact h.transferSent ht
  case wireInit1 | wireInit2 | wireTrig => exact h.transferAllSent ht
  case wireSample =>
    obtain ⟨_, h1, ht⟩ := andThen_eq_next ht
    obtain ⟨_, h2, ht⟩ := andThen_eq_next ht
    obtain ⟨_, h3, ht⟩ := andThen_eq_next ht
    obtain ⟨_, h4, ht⟩ := andThen_eq_next ht
    obtain ⟨_, h5, ht⟩ := andThen_eq_next ht
    exact (((((h.transfer h1).transfer h2).transfer h3).transfer h4).transfer h5).transfer ht
  case wireButtons => exact h.transfer ht

/-! ### The reference host -/

theorem stepHost {s t : State} (h : ForegroundInv s) (hp : s.pending = none) (hs : s.seq = none)
    (ht : Machine.stepHost s = .next t) : ForegroundInv t := by
  have hclosed : (∀ p, s.pos ≠ .ready p) → s.busOpen = false := fun hne => (h.procedure hs hne).1
  unfold Machine.stepHost at ht
  cases hpos : s.pos <;> simp only [hpos] at ht
  case ready p =>
    cases p
    · exact h.exec (i := .boot) ht
    · exact h.exec (i := .waitStart) ht
    · exact h.exec (i := .cycle) ht
  all_goals specialize hclosed (by simp [hpos])
  case bootSensor => exact h.enterSequence_setPos (.inl rfl) ht
  case bootSched =>
    obtain ⟨u, hu, rfl⟩ := mapNext_eq_next ht
    obtain ⟨_, rfl⟩ := initScheduler_eq_next hu
    exact of_closed h.config hp hs hclosed nofun
  case waitTest =>
    unfold testStart at ht
    split at ht
    · cases ht
      exact of_closed h.config hp hs hclosed nofun
    · exact h.enterSequence (by simp [hpos]) ht
  case waitEnable =>
    obtain ⟨u, hu, rfl⟩ := mapNext_eq_next ht
    obtain ⟨_, rfl⟩ := enableScheduler_eq_next hu
    exact of_closed h.config hp hs hclosed nofun
  case cycleJudge =>
    unfold judgeSample at ht
    split at ht
    · exact h.enterSequence (by simp [hpos]) ht
    · cases ht
      exact of_closed h.config hp hs hclosed nofun
  case cycleRezero =>
    cases ht
    unfold testRezero
    split <;> exact of_closed h.config hp hs hclosed nofun
  case cycleMap =>
    cases ht
    refine of_closed h.config hp hs hclosed fun _ _ i => ?_
    rw [State.setPos_widths, mapSample, State.setWidths_widths, getElem_mapWidths]
    exact mapWidth_inRange h.config _ _ _ i
  case cycleStore k =>
    obtain ⟨u, hu, rfl⟩ := mapNext_eq_next ht
    obtain ⟨_, _, rfl⟩ := storeTarget_eq_next hu
    exact of_closed h.config hp hs hclosed fun _ _ => h.stored k hpos
  case cyclePace =>
    cases ht
    unfold pollTick
    split
    · exact of_closed h.config hp hs hclosed nofun
    · exact h.of_sameForeground ⟨rfl, rfl, rfl, rfl, rfl, rfl⟩
  all_goals
    cases ht
    exact of_closed h.config hp hs hclosed nofun

/-! ### Turns -/

theorem stepForeground {s t : State} (h : ForegroundInv s) (ht : Machine.stepForeground s = .next t) : ForegroundInv t := by
  cases hp : s.pending with
  | some p =>
    rw [stepForeground_pending hp] at ht
    cases ht
    exact h
  | none =>
    cases hs : s.seq with
    | some r => exact h.stepSequence hp hs (by rwa [stepForeground_sequence hp hs] at ht)
    | none => exact h.stepHost hp hs (by rwa [stepForeground_host hp hs] at ht)

theorem takeTurn {turn : Turn} {s t : State} (h : ForegroundInv s) (ht : Machine.takeTurn turn s = .next t) :
    ForegroundInv t := by
  cases turn with
  | foreground => exact h.stepForeground ht
  | timer => exact h.exec (i := .compareMatch) ht
  | shiftComplete a v =>
    cases ht
    exact h.complete a v
  | present f =>
    simp only [Machine.takeTurn, runWord] at ht
    split at ht
    · exact h.exec ht
    · cases ht

end ForegroundInv

/-! ### The whole invariant -/

theorem State.Inv.takeTurn {turn : Turn} {s t : State} (h : s.Inv) (ht : Machine.takeTurn turn s = .next t) : t.Inv :=
  .of_halves (h.scheduler.takeTurn ht) (h.foreground.takeTurn ht)

/-- Taking note of a turn moves neither half. -/
theorem State.Inv.nextTurn {s : State} (h : s.Inv) : (nextTurn s).2.Inv := by
  rw [nextTurn_state]
  exact .of_halves (h.scheduler.of_sameScheduler ⟨rfl, rfl, rfl, rfl, rfl, rfl, rfl, rfl, rfl⟩)
    (h.foreground.of_sameForeground ⟨rfl, rfl, rfl, rfl, rfl, rfl⟩)

/-- Settles O39: whichever agent moves, each half of the invariant is kept. -/
theorem stepKeepsTheInvariant : Obligations.StepKeepsTheInvariant := by
  intro s t h ht
  exact h.nextTurn.takeTurn ht

/-! ### After power-on -/

theorem schedulerInv_powerOn {c : Config} (h : c.Ok) : SchedulerInv (State.powerOn c) where
  config := h
  targets := h.center_range
  outputs i := by simp [State.powerOn, Phase.channel]
  tickFits := Nat.two_pow_pos _
  armed := nofun
  inert _ := ⟨rfl, rfl⟩
  pulses := nofun
  compare := nofun
  trace := ⟨nofun, .nil, nofun, fun _ => rfl⟩

/-- Settles O38: nothing has been emitted, and the host is between procedures with no frame open. -/
theorem resetMeetsTheInvariant : Obligations.ResetMeetsTheInvariant :=
  .of_halves (schedulerInv_powerOn Config.chip.property) (.of_ready Config.chip.property rfl (p := .boot) rfl nofun)

/-! ### A running sequence is never refused -/

/-- A legal list finds BUS_OPEN, at each of its steps, as that step requires. -/
theorem legalFrom_getElem? {l : List SeqStep} {o : Bool} {n : Nat} {x : SeqStep} (hl : legalFrom o l = true)
    (hx : l[n]? = some x) : legalFrom ((l.take n).foldl openStep o) [x] = true := by
  induction l generalizing o n with
  | nil => simp at hx
  | cons y l ih =>
    obtain ⟨hy, hrest⟩ := Bool.and_eq_true_iff.mp hl
    cases n with
    | zero =>
      cases hx
      exact Bool.and_eq_true_iff.mpr ⟨hy, rfl⟩
    | succ n => exact ih hrest hx

/-- The next step of a running sequence finds BUS_OPEN as it requires (R133, R163). -/
theorem State.Inv.next_legal {s : State} {r : SeqRun} {x : SeqStep} (h : s.Inv) (hp : s.pending = none) (hs : s.seq = some r)
    (hx : r.next s.cfg.lit = some x) : legalFrom s.busOpen [x] = true := by
  rw [((h.sequence r hs).done hp).1]
  exact legalFrom_getElem? (steps_legal_of_ok h.config r.name) hx

/-- A sample read that has completed its list has read six bytes (R166). -/
theorem readsIn_steps {n : SeqName} (h : n ≠ .sensorInit) : readsIn (n.steps {}) = 6 := by
  cases n with
  | sensorInit => exact absurd rfl h
  | requestSample => decide
  | readSample => decide

theorem sampleOf_of_length {l : Literals} {got : List Byte} (hl : l = {}) (h : got.length = 6) :
    ∃ v, sampleOf l got = some v := by
  subst hl
  match got, h with
  | [_, _, _, _, _, _], _ => exact ⟨_, rfl⟩

theorem State.Inv.finishSequence {s : State} {r : SeqRun} (h : s.Inv) (hp : s.pending = none) (hs : s.seq = some r)
    (hx : r.next s.cfg.lit = none) : ∃ t, finishSequence r s = .next t := by
  obtain ⟨_, hbytes⟩ := (h.sequence r hs).all_completed hp hx
  have hsample : r.name ≠ .sensorInit → ∃ v, sampleOf s.cfg.lit r.got = some v := by
    intro hname
    rw [h.config.lit_default, readsIn_steps hname] at hbytes
    exact sampleOf_of_length h.config.lit_default hbytes
  unfold Machine.finishSequence
  cases hname : r.name with
  | sensorInit => exact ⟨_, rfl⟩
  | requestSample =>
    obtain ⟨v, hv⟩ := hsample (by simp [hname])
    exact ⟨_, by simp only [hv]; rfl⟩
  | readSample =>
    obtain ⟨v, hv⟩ := hsample (by simp [hname])
    exact ⟨_, by simp only [hv]; rfl⟩

/-- Settles O22: a busy-wait, or a next step that BUS_OPEN allows, or a return with the bytes it needs. -/
theorem runningSequenceIsNeverRefused : Obligations.RunningSequenceIsNeverRefused := by
  intro s r h hs
  cases hp : s.pending with
  | some p => exact ⟨s, stepForeground_pending hp⟩
  | none =>
    rw [stepForeground_sequence hp hs]
    cases hx : r.next s.cfg.lit with
    | none =>
      obtain ⟨t, ht⟩ := h.finishSequence hp hs hx
      exact ⟨t, by simp only [stepSequence, hx, ht]⟩
    | some x =>
      have hlegal := h.next_legal hp hs hx
      cases x with
      | prim p =>
        have hopen : s.busOpen = p.needsOpen := by simpa [legalFrom] using hlegal
        simp only [stepSequence, hx]
        exact ⟨_, issue_of_legal hp hopen⟩
      | delay =>
        have hclosed : s.busOpen = false := by simpa [legalFrom] using hlegal
        exact ⟨(s.setSeq (some { r with pos := r.pos + 1 })).logWire .delay, by simp [stepSequence, hx, settle, hclosed]⟩

end Sys2Proof.Machine
end

section
/-!
PROOFS. Turns and presented words (00_scope.md R9, 20_memory.md R74, 30_encoding.md R111, R112), and the Bus Transport
(40_bus_transport.md R131 to R138): Issue, Complete, the order of primitives, and its independence of the event.
-/

namespace Sys2Proof.Machine

/-! ### The step -/

theorem step_of_script {s : State} {turn : Turn} {rest : List Turn} (h : s.script = turn :: rest) :
    step s = takeTurn turn { s with script := rest } := by
  rw [step, nextTurn_script h]

theorem runWord_of_ok {f : Fetch} {s : State} {i : Instr} (h : decode s.cfg.lit f = .ok i) : runWord f s = exec i s := by
  simp only [runWord, h]

theorem runWord_of_error {f : Fetch} {s : State} {e : DecodeError} (h : decode s.cfg.lit f = .error e) :
    runWord f s = .refused (.badWord e) := by
  simp only [runWord, h]

/-- Settles O1: the turn in front presents the word, and the decoder decides. -/
theorem stepRunsPresentedWord : Obligations.StepRunsPresentedWord := by
  intro s f rest h
  rw [step_of_script h]
  exact ⟨fun _ hi => runWord_of_ok hi, fun _ he => runWord_of_error he⟩

/-- Settles O2: one case for each agent the oldest turn may name, and the free turn past the script's end. -/
theorem stepTakesTheOldestTurn : Obligations.StepTakesTheOldestTurn := by
  intro s rest
  refine ⟨step_of_script, step_of_script, fun a v => step_of_script, ?free⟩
  intro h
  rw [step, nextTurn_free h]

theorem decodeTableWord_eq_some {nbits w : Nat} {i : Instr} (h : decodeTableWord nbits w = some i) :
    decode {} (tableFetch nbits w) = .ok i := by
  unfold decodeTableWord at h
  split at h
  · cases h
    assumption
  · cases h

/-- Settles O3: the word stands in front of the script, and noting its turn takes it away again. -/
theorem fetchedWordRunsInTheNextStep : Obligations.FetchedWordRunsInTheNextStep := by
  intro s nbits w i hlit h
  have hstep : step (s.withFetchWord nbits w) = runWord (tableFetch nbits w) s :=
    step_of_script (s := s.withFetchWord nbits w) rfl
  rw [hstep]
  exact runWord_of_ok (by rw [hlit]; exact decodeTableWord_eq_some h)

/-! ### Issue -/

theorem whenIdle_of_pending {s : State} {p : Prim} (h : s.pending = some p) (k : State → Out) :
    whenIdle s k = .refused .primitivePending := by
  simp [whenIdle, h]

theorem pending_of_atBoundary {s : State} (h : s.atBoundary = true) : s.pending = none := ((atBoundary_iff s).mp h).1

theorem seq_of_atBoundary {s : State} (h : s.atBoundary = true) : s.seq = none := ((atBoundary_iff s).mp h).2.1

theorem issue_of_wrong_order {p : Prim} {s : State} (hp : s.pending = none) (hb : s.busOpen ≠ p.needsOpen) :
    issue p s = .refused .busOrder := by
  simp [issue, hp, hb]

/-- A host's primitive between operations, where BUS_OPEN is as it requires. -/
theorem whenIdle_issue {p : Prim} {s : State} (h : s.atBoundary = true) (hb : s.busOpen = p.needsOpen) :
    whenIdle s (issue p) = .next { s with pending := some p } := by
  rw [whenIdle_of_atBoundary h, issue_of_legal (pending_of_atBoundary h) hb]
  rfl

/-- The same, where it is not. -/
theorem whenIdle_issue_refused {p : Prim} {s : State} (h : s.atBoundary = true) (hb : s.busOpen ≠ p.needsOpen) :
    whenIdle s (issue p) = .refused .busOrder := by
  rw [whenIdle_of_atBoundary h, issue_of_wrong_order (pending_of_atBoundary h) hb]

/-! ### The operations -/

/-- Settles O9: `initBus` is the whole write, and between operations it runs. -/
theorem busInitClosesTheFrame : Obligations.BusInitClosesTheFrame := by
  intro s
  exact ⟨fun hb => whenIdle_of_atBoundary hb fun s => .next (initBus s),
    fun _ hp => whenIdle_of_pending hp fun s => .next (initBus s)⟩

/-- Settles O10: Issue is legal with no frame open, and Complete is START's. -/
theorem startOpensAFrame : Obligations.StartOpensAFrame := by
  intro s hb hopen
  exact ⟨whenIdle_issue hb hopen, fun a v => rfl⟩

/-- Settles O11: Issue is legal with a frame open, and Complete is STOP's. -/
theorem stopClosesTheFrame : Obligations.StopClosesTheFrame := by
  intro s hb hopen
  exact ⟨whenIdle_issue hb hopen, fun a v => rfl⟩

/-- A transfer of a host's that completes gives its result to the host. -/
theorem complete_write_host {s : State} {b : Byte} (hp : s.pending = some (.write b)) (hs : s.seq = none) (a : Ack) (v : Byte) :
    complete a v s = { s with pending := none, wire := s.wire ++ [.sent b a], ret := .ack a } := by
  simp [complete_write hp, hs, State.setPending, State.logWire, State.setRet]

theorem complete_read_host {s : State} {k : Bool} (hp : s.pending = some (.read k)) (hs : s.seq = none) (a : Ack) (v : Byte) :
    complete a v s = { s with pending := none, wire := s.wire ++ [.received v (readAck k)], ret := .byte v } := by
  simp [complete_read hp, hs, State.setPending, State.logWire, State.setRet]

/-- Settles O12: between operations no sequence runs, so the acknowledge bit is the host's. -/
theorem writeByteSendsTheByte : Obligations.WriteByteSendsTheByte := by
  intro s b hb hopen
  refine ⟨whenIdle_issue hb hopen, fun a v => ?_⟩
  exact congrArg Host.Outcome.next
    (complete_write_host (s := { s with pending := some (.write b) }) rfl (seq_of_atBoundary (s := s) hb) a v)

/-- Settles O13: between operations no sequence runs, so the byte read is the host's. -/
theorem readByteReturnsTheByte : Obligations.ReadByteReturnsTheByte := by
  intro s k hb hopen
  refine ⟨whenIdle_issue hb hopen, fun a v => ?_⟩
  exact congrArg Host.Outcome.next
    (complete_read_host (s := { s with pending := some (.read k) }) rfl (seq_of_atBoundary (s := s) hb) a v)

/-- Settles O14: what is in flight is asked first, then BUS_OPEN. -/
theorem primitivesOutOfOrderRefused : Obligations.PrimitivesOutOfOrderRefused := by
  intro s
  refine ⟨?pending, ?opened, ?closed⟩
  case pending =>
    intro p hp
    exact ⟨whenIdle_of_pending hp _, whenIdle_of_pending hp _, fun _ => whenIdle_of_pending hp _,
      fun _ => whenIdle_of_pending hp _⟩
  case opened =>
    intro hb hopen
    exact whenIdle_issue_refused hb (by simp [hopen, Prim.needsOpen])
  case closed =>
    intro hb hopen
    have refuse : ∀ p : Prim, p.needsOpen = true → whenIdle s (issue p) = .refused .busOrder := fun p hp =>
      whenIdle_issue_refused hb (by simp [hopen, hp])
    exact ⟨refuse .stop rfl, fun b => refuse (.write b) rfl, fun k => refuse (.read k) rfl⟩

/-- Settles O17: between operations DELAY_SETTLE is `settle`. -/
theorem delaySettleAppendsD : Obligations.DelaySettleAppendsD := by
  intro s hb
  have hexec : exec .delaySettle s = settle s := whenIdle_of_atBoundary hb settle
  rw [hexec]
  constructor
  · intro hopen
    simp [settle, hopen, State.logWire]
  · intro hopen
    simp [settle, hopen]

/-! ### The event and the bus half -/

theorem compareEvent_pending (s : State) : (compareEvent s).pending = s.pending := by rw [compareEvent_eq]
theorem compareEvent_seq (s : State) : (compareEvent s).seq = s.seq := by rw [compareEvent_eq]
theorem compareEvent_busOpen (s : State) : (compareEvent s).busOpen = s.busOpen := by rw [compareEvent_eq]

/-- A write that the handler neither reads nor overwrites may come before the event or after it. -/
theorem compareEvent_comm {f : State → State} (henabled : ∀ s, (f s).interruptEnabled = s.interruptEnabled)
    (hphase : ∀ s, (f s).phase = s.phase) (hpulse : ∀ k p s, enterPulse k p (f s) = f (enterPulse k p s))
    (hgap : ∀ s, enterGap (f s) = f (enterGap s)) (s : State) : compareEvent (f s) = f (compareEvent s) := by
  cases hen : s.interruptEnabled with
  | false => rw [compareEvent_disabled hen, compareEvent_disabled ((henabled s).trans hen)]
  | true =>
    have hen' := (henabled s).trans hen
    cases hk : s.phase.succ.channel with
    | none => rw [compareEvent_gap hen hk, compareEvent_gap hen' (by rwa [hphase]), hgap]
    | some k => rw [compareEvent_pulse hen hk, compareEvent_pulse hen' (by rwa [hphase]), hphase, hpulse]

theorem compareEvent_setPending (p : Option Prim) (s : State) :
    compareEvent (s.setPending p) = (compareEvent s).setPending p :=
  compareEvent_comm (f := State.setPending p) (fun _ => rfl) (fun _ => rfl) (fun _ _ _ => rfl) (fun _ => rfl) s

theorem compareEvent_setBusOpen (b : Bool) (s : State) : compareEvent (s.setBusOpen b) = (compareEvent s).setBusOpen b :=
  compareEvent_comm (f := State.setBusOpen b) (fun _ => rfl) (fun _ => rfl) (fun _ _ _ => rfl) (fun _ => rfl) s

theorem compareEvent_logWire (x : Symbol) (s : State) : compareEvent (s.logWire x) = (compareEvent s).logWire x :=
  compareEvent_comm (f := State.logWire x) (fun _ => rfl) (fun _ => rfl) (fun _ _ _ => rfl) (fun _ => rfl) s

theorem compareEvent_setSeq (r : Option SeqRun) (s : State) : compareEvent (s.setSeq r) = (compareEvent s).setSeq r :=
  compareEvent_comm (f := State.setSeq r) (fun _ => rfl) (fun _ => rfl) (fun _ _ _ => rfl) (fun _ => rfl) s

theorem compareEvent_setSample (v : Sample) (s : State) : compareEvent (s.setSample v) = (compareEvent s).setSample v :=
  compareEvent_comm (f := State.setSample v) (fun _ => rfl) (fun _ => rfl) (fun _ _ _ => rfl) (fun _ => rfl) s

theorem compareEvent_setRet (r : Ret) (s : State) : compareEvent (s.setRet r) = (compareEvent s).setRet r :=
  compareEvent_comm (f := State.setRet r) (fun _ => rfl) (fun _ => rfl) (fun _ _ _ => rfl) (fun _ => rfl) s

theorem compareEvent_deliver (r : Ret) (s : State) : compareEvent (deliver r s) = deliver r (compareEvent s) := by
  unfold deliver
  rw [compareEvent_seq]
  split
  · exact compareEvent_setRet _ s
  · exact compareEvent_setSeq _ s
  · rfl

theorem compareEvent_complete (a : Ack) (v : Byte) (s : State) :
    compareEvent (complete a v s) = complete a v (compareEvent s) := by
  unfold complete
  rw [compareEvent_pending]
  split
  · rfl
  · rw [compareEvent_setBusOpen, compareEvent_logWire, compareEvent_setPending]
  · rw [compareEvent_setBusOpen, compareEvent_logWire, compareEvent_setPending]
  · rw [compareEvent_deliver, compareEvent_logWire, compareEvent_setPending]
  · rw [compareEvent_deliver, compareEvent_logWire, compareEvent_setPending]

theorem issue_compareEvent (p : Prim) (s : State) : mapNext (issue p s) compareEvent = issue p (compareEvent s) := by
  unfold issue
  rw [compareEvent_pending, compareEvent_busOpen]
  split_ifs
  · rfl
  · rw [mapNext_next, compareEvent_setPending]
  · rfl

theorem settle_compareEvent (s : State) : mapNext (settle s) compareEvent = settle (compareEvent s) := by
  unfold settle
  rw [compareEvent_busOpen]
  split_ifs
  · rfl
  · rw [mapNext_next, compareEvent_logWire]

theorem finishSequence_compareEvent (run : SeqRun) (s : State) :
    mapNext (finishSequence run s) compareEvent = finishSequence run (compareEvent s) := by
  unfold finishSequence
  rw [compareEvent_cfg]
  split
  · rw [mapNext_next, compareEvent_setSeq]
  all_goals
    split
    · rw [mapNext_next, compareEvent_setRet, compareEvent_setSeq, compareEvent_setSample]
    · rfl

theorem stepSequence_compareEvent (run : SeqRun) (s : State) :
    mapNext (stepSequence run s) compareEvent = stepSequence run (compareEvent s) := by
  unfold stepSequence
  rw [compareEvent_cfg]
  split
  · rw [issue_compareEvent, compareEvent_setSeq]
  · rw [settle_compareEvent, compareEvent_setSeq]
  · exact finishSequence_compareEvent run s

theorem enterSequence_compareEvent (n : SeqName) (s : State) :
    mapNext (enterSequence n s) compareEvent = enterSequence n (compareEvent s) := by
  unfold enterSequence
  rw [compareEvent_pending, compareEvent_busOpen]
  split_ifs
  · rfl
  · rfl
  · rw [mapNext_next, compareEvent_setSeq]

theorem execBusInit_compareEvent (s : State) : mapNext (execBusInit s) compareEvent = execBusInit (compareEvent s) := by
  unfold execBusInit whenIdle initBus
  rw [compareEvent_pending, compareEvent_atBoundary]
  split_ifs
  · rfl
  · rw [mapNext_next, compareEvent_setPending, compareEvent_setBusOpen]
  · rfl

/-- Settles O16: each bus operation asks of fields the handler leaves and writes fields the handler does not read. -/
theorem compareMatchCommutesWithTheBus : Obligations.CompareMatchCommutesWithTheBus := fun s =>
  ⟨fun a v => compareEvent_complete a v s, fun p => issue_compareEvent p s, fun run => stepSequence_compareEvent run s,
    fun n => enterSequence_compareEvent n s, execBusInit_compareEvent s⟩

/-! ### A stalled bus -/

/-- A run of events writes no more than one event does. -/
theorem compareEvents_eq (n : Nat) (s : State) :
    compareEvents n s =
      { s with
        out   := (compareEvents n s).out
        cmp   := (compareEvents n s).cmp
        tick  := (compareEvents n s).tick
        pulse := (compareEvents n s).pulse
        phase := (compareEvents n s).phase } := by
  induction n generalizing s with
  | zero => rfl
  | succ n ih =>
    refine (ih (compareEvent s)).trans ?_
    rw [compareEvents, compareEvent_eq s]

/-- Each enabled event adds one record to PULSE. -/
theorem compareEvents_pulse_length {s : State} (h : s.interruptEnabled = true) (n : Nat) :
    (compareEvents n s).pulse.length = s.pulse.length + n := by
  induction n generalizing s with
  | zero => rfl
  | succ n ih =>
    rw [compareEvents, ih (by simpa using h), (compareEvent_enabled h).2.1, List.length_append, List.length_singleton]
    omega

/-- While a primitive is in flight the foreground's turns change nothing, so a run is that of its events (R131, R141). -/
theorem runTurns_of_pending {s : State} {p : Prim} {ts : List Turn} (hp : s.pending = some p)
    (hts : ∀ t ∈ ts, t = .foreground ∨ t = .timer) : runTurns ts s = .next (compareEvents (ts.count .timer) s) := by
  induction ts generalizing s with
  | nil => rfl
  | cons t ts ih =>
    obtain ⟨ht, hrest⟩ := List.forall_mem_cons.mp hts
    rw [runTurns_cons]
    rcases ht with rfl | rfl
    · rw [show takeTurn .foreground s = .next s from stepForeground_pending hp, andThen_next, ih hp hrest,
        List.count_cons_of_ne (by decide)]
    · rw [show takeTurn .timer s = .next (compareEvent s) from rfl, andThen_next,
        ih ((compareEvent_pending s).trans hp) hrest, List.count_cons_self, compareEvents]

/-- Settles O15: the foreground busy-waits, and the timer's events go on. -/
theorem stalledBusBlocksForegroundOnly : Obligations.StalledBusBlocksForegroundOnly := by
  intro s p ts hp hts
  exact ⟨_, runTurns_of_pending hp hts, rfl, compareEvents_eq _ s, fun hen => compareEvents_pulse_length hen _⟩

end Sys2Proof.Machine
end

section
/-!
PROOFS. The Motion Sensor Client (41_sensor_client.md R160 to R166): the three sequences entered and run to their end, and a
sample read with events anywhere inside it.
-/

namespace Sys2Proof.Machine

/-! ### Entry -/

theorem enterSequence_of_open {n : SeqName} {s : State} (hp : s.pending = none) (hb : s.busOpen = true) :
    enterSequence n s = .refused .busOrder := by
  simp [enterSequence, hp, hb]

theorem whenIdle_enterSequence {n : SeqName} {s : State} (h : s.atBoundary = true) (hb : s.busOpen = false) :
    whenIdle s (enterSequence n) = .next { s with seq := some { name := n, pos := 0, got := [] } } := by
  rw [whenIdle_of_atBoundary h, enterSequence_of_closed (pending_of_atBoundary h) hb]
  rfl

theorem whenIdle_enterSequence_refused {n : SeqName} {s : State} (h : s.atBoundary = true) (hb : s.busOpen = true) :
    whenIdle s (enterSequence n) = .refused .busOrder := by
  rw [whenIdle_of_atBoundary h, enterSequence_of_open (pending_of_atBoundary h) hb]

/-! ### The whole run -/

/-- A sequence entered with no frame open runs its list and closes its last frame. -/
theorem driveSequence_closes {s : State} {n : SeqName} (hok : s.cfg.Ok) (d : Nat → Ack × Byte) (hp : s.pending = none)
    (hb : s.busOpen = false) (hs : s.seq = some { name := n, pos := 0, got := [] }) :
    ∃ run : SeqRun, run.name = n ∧ run.got = bytesFrom d 0 (n.steps {}) ∧
      runTurns (driveSequence s.cfg d n) s =
        finishSequence run { s with seq := some run, wire := s.wire ++ wireFrom d 0 (n.steps {}) } := by
  refine ⟨{ name := n, pos := (n.steps {}).length, got := bytesFrom d 0 (n.steps {}) }, rfl, rfl, ?_⟩
  rw [driveSequence_run d n s hp hb hs (steps_legal_of_ok hok n), steps_close_of_ok hok n, ← hb, hok.lit_default]

/-- SENSOR_INIT, driven: the two initialisation frames with the delay between them. -/
theorem driveSequence_sensorInit {s : State} (hok : s.cfg.Ok) (d : Nat → Ack × Byte) (hp : s.pending = none)
    (hb : s.busOpen = false) (hs : s.seq = some { name := .sensorInit, pos := 0, got := [] }) :
    runTurns (driveSequence s.cfg d .sensorInit) s = .next { s with
      seq := none
      wire := s.wire ++
        [.start, .sent 0xA4 (d 1).1, .sent 0xF0 (d 2).1, .sent 0x55 (d 3).1, .stop, .delay,
         .start, .sent 0xA4 (d 7).1, .sent 0xFB (d 8).1, .sent 0x00 (d 9).1, .stop] } := by
  obtain ⟨run, hname, _, hrun⟩ := driveSequence_closes hok d hp hb hs
  rw [hrun, finishSequence, hname]
  rfl

/-- A sample read, driven: its frames on WIRE, and SAMPLE assembled from the bytes drawn and returned. -/
theorem driveSequence_sample {s : State} {n : SeqName} {v : Sample} (hok : s.cfg.Ok) (d : Nat → Ack × Byte)
    (hp : s.pending = none) (hb : s.busOpen = false) (hs : s.seq = some { name := n, pos := 0, got := [] })
    (hn : n ≠ .sensorInit) (hv : sampleOf {} (bytesFrom d 0 (n.steps {})) = some v) :
    runTurns (driveSequence s.cfg d n) s = .next { s with
      seq := none, sample := v, ret := .sample v, wire := s.wire ++ wireFrom d 0 (n.steps {}) } := by
  obtain ⟨run, rfl, hgot, hrun⟩ := driveSequence_closes hok d hp hb hs
  rw [hrun, finishSequence]
  rw [← hgot, ← hok.lit_default] at hv
  cases hname : run.name with
  | sensorInit => exact absurd hname hn
  | requestSample =>
    simp only [hv]
    rfl
  | readSample =>
    simp only [hv]
    rfl

/-- Settles O18: entry is `enterSequence`, and the run is that of the list of R162. -/
theorem sensorInitSendsBothFrames : Obligations.SensorInitSendsBothFrames := by
  intro s d hok hb
  have hp := pending_of_atBoundary hb
  refine ⟨fun hopen => whenIdle_enterSequence_refused hb hopen, fun hclosed => ⟨whenIdle_enterSequence hb hclosed, ?_⟩⟩
  refine (driveSequence_sensorInit (s := { s with seq := some _ }) hok d hp hclosed rfl).trans ?_
  rw [← seq_of_atBoundary hb]

/-- Settles O19: entry is `enterSequence`, and the run is that of the list of R166. -/
theorem readSampleFillsSample : Obligations.ReadSampleFillsSample := by
  intro s d hok hb
  have hp := pending_of_atBoundary hb
  refine ⟨fun hopen => whenIdle_enterSequence_refused hb hopen, fun hclosed => ⟨whenIdle_enterSequence hb hclosed, ?_⟩⟩
  rintro v rfl
  refine (driveSequence_sample (s := { s with seq := some _ }) (n := .readSample) hok d hp hclosed rfl
    nofun rfl).trans ?_
  rw [← seq_of_atBoundary hb]
  rfl

/-- Settles O20: entry is `enterSequence`, and the run is that of the list of R164. -/
theorem requestSampleTriggersAndReads : Obligations.RequestSampleTriggersAndReads := by
  intro s d hok hb
  have hp := pending_of_atBoundary hb
  refine ⟨fun hopen => whenIdle_enterSequence_refused hb hopen, fun hclosed => ⟨whenIdle_enterSequence hb hclosed, ?_⟩⟩
  rintro v rfl
  refine (driveSequence_sample (s := { s with seq := some _ }) (n := .requestSample) hok d hp hclosed rfl
    nofun rfl).trans ?_
  rw [← seq_of_atBoundary hb]
  rfl

/-! ### Events anywhere inside a sequence -/

/-- The bus engine's turns, and foreground turns each of which finds a sequence running. -/
def TurnsInSequence : List Turn → State → Prop
  | [], _ => True
  | turn :: ts, s => (∀ f, turn ≠ .present f) ∧ (turn = .foreground → s.seq ≠ none) ∧
      ∀ u, takeTurn turn s = .next u → TurnsInSequence ts u

theorem TurnsInSequence.append {l m : List Turn} {s : State} (hl : TurnsInSequence l s)
    (hm : ∀ u, runTurns l s = .next u → TurnsInSequence m u) : TurnsInSequence (l ++ m) s := by
  induction l generalizing s with
  | nil => exact hm s rfl
  | cons turn l ih =>
    obtain ⟨hpresent, hforeground, hrest⟩ := hl
    refine ⟨hpresent, hforeground, fun u hu => ih (hrest u hu) fun w hw => hm w ?_⟩
    rw [runTurns_cons, hu, andThen_next, hw]

theorem turnsInSequence_foreground {s : State} {run : SeqRun} (hs : s.seq = some run) : TurnsInSequence [.foreground] s :=
  ⟨nofun, fun _ => by simp [hs], fun _ _ => trivial⟩

theorem turnsInSequence_driveStep {s : State} {run : SeqRun} (hs : s.seq = some run) (d : Ack × Byte) (x : SeqStep) :
    TurnsInSequence (driveStep d x) s := by
  cases x with
  | delay => exact turnsInSequence_foreground hs
  | prim p => exact (turnsInSequence_foreground hs).append fun _ _ => ⟨nofun, nofun, fun _ _ => trivial⟩

theorem driveFrom_cons (d : Nat → Ack × Byte) (j : Nat) (x : SeqStep) (xs : List SeqStep) :
    driveFrom d j (x :: xs) = driveStep (d j) x ++ driveFrom d (j + 1) xs := by
  simp [driveFrom, List.zipIdx_cons]

/-- The turns that drive a sequence's list find it running, and so does the turn in which it returns. -/
theorem turnsInSequence_driveFrom (d : Nat → Ack × Byte) {n : SeqName} (todo : List SeqStep) {s : State}
    {before : List SeqStep} {got : List Byte} (hn : n.steps s.cfg.lit = before ++ todo) (hp : s.pending = none)
    (hs : s.seq = some { name := n, pos := before.length, got := got }) (hl : legalFrom s.busOpen todo = true) :
    TurnsInSequence (driveFrom d before.length todo ++ [.foreground]) s := by
  induction todo generalizing s before got with
  | nil => exact turnsInSequence_foreground hs
  | cons x xs ih =>
    obtain ⟨hx, hxs⟩ := Bool.and_eq_true_iff.mp hl
    have hnext : SeqRun.next s.cfg.lit { name := n, pos := before.length, got := got } = some x := by
      simp [SeqRun.next, hn]
    rw [driveFrom_cons, List.append_assoc]
    refine (turnsInSequence_driveStep hs _ x).append fun u hu => ?_
    rw [driveStep_run hp hs hnext (Bool.and_eq_true_iff.mpr ⟨hx, rfl⟩)] at hu
    cases hu
    have hlength : (before ++ [x]).length = before.length + 1 := List.length_append
    rw [← hlength]
    exact ih (got := got ++ byteOf (d before.length) x) (by simpa using hn) hp (by simp) hxs

theorem turnsInSequence_driveSequence {s : State} {n : SeqName} (hok : s.cfg.Ok) (d : Nat → Ack × Byte)
    (hp : s.pending = none) (hb : s.busOpen = false) (hs : s.seq = some { name := n, pos := 0, got := [] }) :
    TurnsInSequence (driveSequence s.cfg d n) s :=
  turnsInSequence_driveFrom d (before := []) (n.steps s.cfg.lit) rfl hp hs (by rw [hb]; exact steps_legal_of_ok hok n)

/-- An event may come before such a turn or after it (R82). -/
theorem takeTurn_compareEvent {turn : Turn} {s : State} (hpresent : ∀ f, turn ≠ .present f)
    (hforeground : turn = .foreground → s.seq ≠ none) :
    takeTurn turn (compareEvent s) = mapNext (takeTurn turn s) compareEvent := by
  cases turn with
  | present f => exact absurd rfl (hpresent f)
  | timer => rfl
  | shiftComplete a v => exact congrArg Host.Outcome.next (compareEvent_complete a v s).symm
  | foreground =>
    obtain ⟨run, hs⟩ := Option.ne_none_iff_exists'.mp (hforeground rfl)
    simp only [takeTurn]
    cases hp : s.pending with
    | some p => rw [stepForeground_pending hp, stepForeground_pending ((compareEvent_pending s).trans hp), mapNext_next]
    | none =>
      rw [stepForeground_sequence hp hs,
        stepForeground_sequence ((compareEvent_pending s).trans hp) ((compareEvent_seq s).trans hs),
        stepSequence_compareEvent]

/-- An event before all of the turns does what it does after them. -/
theorem TurnsInSequence.runTurns_compareEvent {ts : List Turn} {s : State} (h : TurnsInSequence ts s) :
    TurnsInSequence ts (compareEvent s) ∧ runTurns ts (compareEvent s) = mapNext (runTurns ts s) compareEvent := by
  induction ts generalizing s with
  | nil => exact ⟨trivial, rfl⟩
  | cons turn ts ih =>
    obtain ⟨hpresent, hforeground, hrest⟩ := h
    have hcomm := takeTurn_compareEvent hpresent hforeground
    constructor
    · refine ⟨hpresent, by rwa [compareEvent_seq], fun w hw => ?_⟩
      rw [hcomm] at hw
      obtain ⟨u, hu, rfl⟩ := mapNext_eq_next hw
      exact (ih (hrest u hu)).1
    · rw [runTurns_cons, runTurns_cons, hcomm]
      cases hu : takeTurn turn s with
      | next u => exact (ih (hrest u hu)).2
      | fault r => rfl
      | refused r => rfl

/-- However events are interleaved with such turns, the run ends as if they all came last. -/
theorem runTurns_interleaved {ts : List Turn} {s t : State} (h : TurnsInSequence (ts.filter (· != .timer)) s)
    (hrun : runTurns (ts.filter (· != .timer)) s = .next t) :
    runTurns ts s = .next (compareEvents (ts.count .timer) t) := by
  induction ts generalizing s t with
  | nil => exact hrun
  | cons turn ts ih =>
    by_cases hturn : turn = .timer
    · subst hturn
      rw [List.filter_cons_of_neg (by simp)] at h hrun
      obtain ⟨hafter, hcomm⟩ := h.runTurns_compareEvent
      rw [hrun] at hcomm
      rw [List.count_cons_self]
      exact ih hafter hcomm
    · rw [List.filter_cons_of_pos (by simpa using hturn)] at h hrun
      obtain ⟨_, _, hnext⟩ := h
      obtain ⟨u, hu, hrest⟩ := andThen_eq_next hrun
      rw [List.count_cons_of_ne hturn, runTurns_cons, hu, andThen_next]
      exact ih (hnext u hu) hrest

/-- Settles O21: the events may all be put after the read, where they touch neither WIRE nor SAMPLE nor the bus. -/
theorem sampleReadUnaffectedByInterrupts : Obligations.SampleReadUnaffectedByInterrupts := by
  intro s d ts hok hb hclosed hts
  have hp := pending_of_atBoundary hb
  have hturns := turnsInSequence_driveSequence (s := { s with seq := some { name := .readSample, pos := 0, got := [] } })
    hok d hp hclosed rfl
  have hrun := driveSequence_sample (s := { s with seq := some { name := .readSample, pos := 0, got := [] } })
    hok d hp hclosed rfl nofun rfl
  rw [← hts] at hturns hrun
  refine ⟨_, _, whenIdle_enterSequence hb hclosed, runTurns_interleaved hturns hrun, ?_⟩
  rw [compareEvents_eq]
  exact ⟨rfl, rfl, hclosed, hp, rfl, rfl⟩

end Sys2Proof.Machine
end

section
/-!
PROOFS. The Pulse Scheduler's operations (42_pulse_scheduler.md R182 to R185), the frames a run of events emits (R192, R193,
R196), and the access table of 10_state.md R44.
-/

namespace Sys2Proof.Machine

/-! ### After power-on -/

/-- Settles O37: `State.powerOn` is the table of R45. -/
theorem resetState : Obligations.ResetState :=
  ⟨Config.chip.property, rfl, rfl, rfl, rfl, rfl, rfl, rfl, rfl, rfl, rfl, rfl, rfl, rfl⟩

/-! ### SCHED_INIT and SCHED_ENABLE -/

theorem initScheduler_of_ie_false {s : State} (h : s.ie = false) :
    Machine.initScheduler s = .next { s with out := outputsInactive, armed := true, phase := .gap, tick := 0 } := by
  simp [Machine.initScheduler, h]

theorem initScheduler_of_ie {s : State} (h : s.ie = true) : Machine.initScheduler s = .refused .schedulerEnabled := by
  simp [Machine.initScheduler, h]

theorem enableScheduler_of_armed {s : State} (h : s.armed = true) :
    Machine.enableScheduler s = .next { s with ie := true } := by
  simp [Machine.enableScheduler, h, State.setIe]

theorem enableScheduler_of_not_armed {s : State} (h : s.armed = false) :
    Machine.enableScheduler s = .refused .timerNotArmed := by
  simp [Machine.enableScheduler, h]

theorem exec_schedInit {s : State} (h : s.atBoundary = true) : exec .schedInit s = Machine.initScheduler s :=
  whenIdle_of_atBoundary h Machine.initScheduler

theorem exec_schedEnable {s : State} (h : s.atBoundary = true) : exec .schedEnable s = Machine.enableScheduler s :=
  whenIdle_of_atBoundary h Machine.enableScheduler

/-- Settles O23: between operations SCHED_INIT is `initScheduler`, whose one test is of IE. -/
theorem schedInitArmsTheTimer : Obligations.SchedInitArmsTheTimer := by
  intro s hb
  rw [exec_schedInit hb]
  exact ⟨initScheduler_of_ie_false, initScheduler_of_ie⟩

/-! ### The two enable bits -/

/-- No foreground operation clears IE or ARMED. -/
theorem SchedulerWrite.enable_bits {s t : State} (h : SchedulerWrite s t) :
    (s.ie = true → t.ie = true) ∧ (s.armed = true → t.armed = true) := by
  cases h with
  | init h same =>
    obtain ⟨_, rfl⟩ := initScheduler_eq_next h
    exact ⟨same.ie.trans, fun _ => same.armed⟩
  | enable h same =>
    obtain ⟨_, rfl⟩ := enableScheduler_eq_next h
    exact ⟨fun _ => same.ie, same.armed.trans⟩
  | store h same =>
    obtain ⟨_, _, rfl⟩ := storeTarget_eq_next h
    exact ⟨same.ie.trans, same.armed.trans⟩
  | clear same => exact ⟨same.ie.trans, same.armed.trans⟩
  | none same => exact ⟨same.ie.trans, same.armed.trans⟩

theorem takeTurn_enable_bits {turn : Turn} {s t : State} (h : takeTurn turn s = .next t) :
    (s.ie = true → t.ie = true) ∧ (s.armed = true → t.armed = true) := by
  rcases takeTurn_scheduler h with rfl | hwrite
  · rw [compareEvent_eq]
    exact ⟨id, id⟩
  · exact hwrite.enable_bits

theorem step_enable_bits {s t : State} (h : step s = .next t) :
    (s.ie = true → t.ie = true) ∧ (s.armed = true → t.armed = true) := by
  have hturn := takeTurn_enable_bits h
  rwa [nextTurn_state] at hturn

/-- What SCHED_INIT or a clear writes to the outputs, TICK and PULSE is what an inert scheduler has. -/
theorem SchedulerWrite.inert {s t : State} (h : SchedulerWrite s t) (hout : s.out = outputsInactive) (htick : s.tick = 0)
    (hpulse : s.pulse = []) : t.out = outputsInactive ∧ t.tick = 0 ∧ t.pulse = [] := by
  cases h with
  | init h same =>
    obtain ⟨_, rfl⟩ := initScheduler_eq_next h
    exact ⟨same.out, same.tick, same.pulse.trans hpulse⟩
  | enable h same =>
    obtain ⟨_, rfl⟩ := enableScheduler_eq_next h
    exact ⟨same.out.trans hout, same.tick.trans htick, same.pulse.trans hpulse⟩
  | store h same =>
    obtain ⟨_, _, rfl⟩ := storeTarget_eq_next h
    exact ⟨same.out.trans hout, same.tick.trans htick, same.pulse.trans hpulse⟩
  | clear same => exact ⟨same.out.trans hout, same.tick, same.pulse.trans hpulse⟩
  | none same => exact ⟨same.out.trans hout, same.tick.trans htick, same.pulse.trans hpulse⟩

theorem interruptEnabled_of_ie_false {s : State} (h : s.ie = false) : s.interruptEnabled = false := by
  simp [State.interruptEnabled, h]

theorem takeTurn_inert {turn : Turn} {s t : State} (h : takeTurn turn s = .next t) (hie : s.ie = false)
    (hout : s.out = outputsInactive) (htick : s.tick = 0) (hpulse : s.pulse = []) :
    t.out = outputsInactive ∧ t.tick = 0 ∧ t.pulse = [] := by
  rcases takeTurn_scheduler h with rfl | hwrite
  · rw [compareEvent_disabled (interruptEnabled_of_ie_false hie)]
    exact ⟨hout, htick, hpulse⟩
  · exact hwrite.inert hout htick hpulse

/-! ### What an event programs -/

/-- The interval programmed on entering a scheduler state (R190): its channel's target, or the gap. -/
def interval (c : Config) (target : Vector Nat numChannels) (p : Phase) : Nat :=
  match p.channel with
  | some k => target[k]
  | none   => c.gap

theorem interval_of_channel {c : Config} {target : Vector Nat numChannels} {p : Phase} {k : Channel} (h : p.channel = some k) :
    interval c target p = target[k] := by
  simp only [interval, h]

theorem compareEvent_cmp {s : State} (h : s.interruptEnabled = true) :
    (compareEvent s).cmp = interval s.cfg s.target s.phase.succ := by
  unfold interval
  cases hk : s.phase.succ.channel with
  | none => rw [compareEvent_gap h hk]; rfl
  | some k => rw [compareEvent_pulse h hk]; rfl

theorem compareEvent_target (s : State) : (compareEvent s).target = s.target := by rw [compareEvent_eq]

theorem succ_ne (p : Phase) : p.succ ≠ p := by cases p <;> decide

/-- Settles O29: an enabled event moves phase, a disabled one moves nothing. -/
theorem compareMatchOnlyWhenArmedAndEnabled : Obligations.CompareMatchOnlyWhenArmedAndEnabled := by
  intro s
  rw [← interruptEnabled_iff, exec_compareMatch, Host.Outcome.next.injEq]
  constructor
  · intro hsame hen
    have hphase := (compareEvent_enabled hen).1
    rw [hsame] at hphase
    exact succ_ne s.phase hphase.symm
  · intro hdis
    exact compareEvent_disabled (Bool.eq_false_of_not_eq_true hdis)

/-- Settles O24: SCHED_ENABLE is `enableScheduler`, SCHED_INIT leaves Gap, whose successor is P0, and no turn clears IE. -/
theorem schedEnableSetsIe : Obligations.SchedEnableSetsIe := by
  refine ⟨?operation, ?event, ?inert, fun s t h => (step_enable_bits h).1⟩
  case operation =>
    intro s hb
    rw [exec_schedEnable hb, exec_schedInit hb]
    refine ⟨enableScheduler_of_armed, enableScheduler_of_not_armed, ?twice, ?first⟩
    case twice =>
      intro harmed hie
      rw [enableScheduler_of_armed harmed, ← hie]
    case first =>
      intro hie
      have hen : exec .schedEnable { s with out := outputsInactive, armed := true, phase := .gap, tick := 0 } =
          .next { s with out := outputsInactive, armed := true, phase := .gap, tick := 0, ie := true } :=
        (exec_schedEnable (s := { s with out := outputsInactive, armed := true, phase := .gap, tick := 0 }) hb).trans
          (enableScheduler_of_armed rfl)
      rw [initScheduler_of_ie_false hie]
      refine ⟨_, _, hen, exec_compareMatch _, ?_⟩
      rw [compareEvent_pulse (k := 0) rfl rfl]
      exact ⟨rfl, rfl, rfl⟩
  case event =>
    intro s hie
    rw [exec_compareMatch, compareEvent_disabled (interruptEnabled_of_ie_false hie)]
  case inert =>
    intro s t h hie hout htick hpulse
    refine takeTurn_inert h ?_ ?_ ?_ ?_
    all_goals
      rw [nextTurn_state]
      assumption

/-! ### SET_TARGET -/

theorem storeTarget_of_inRange {s : State} {w : Nat} (i : Channel) (h : s.cfg.InRange w) :
    storeTarget i w s = .next (s.setTarget i w) := by
  simp [storeTarget, h.1, h.2]

theorem storeTarget_of_out_of_range {s : State} {w : Nat} (i : Channel) (h : ¬ s.cfg.InRange w) :
    storeTarget i w s = .refused .widthOutOfRange := by
  rw [storeTarget, dif_pos i.isLt, if_neg h]

theorem storeTarget_of_no_channel {s : State} {i : Nat} (w : Nat) (h : numChannels ≤ i) :
    storeTarget i w s = .refused .noSuchChannel := by
  rw [storeTarget, dif_neg (Nat.not_lt.mpr h)]

theorem exec_setTarget {s : State} (h : s.atBoundary = true) (i w : Nat) : exec (.setTarget i w) s = storeTarget i w s :=
  whenIdle_of_atBoundary h (storeTarget i w)

theorem setTarget_self {s : State} (i : Channel) : s.setTarget i s.target[i] = s := by
  simp [State.setTarget]

/-- Settles O25: between operations SET_TARGET is `storeTarget`, and the event reads the target stored. -/
theorem setTargetStoresTheWidth : Obligations.SetTargetStoresTheWidth := by
  intro s w hb
  simp only [exec_setTarget hb]
  refine ⟨fun i hw => storeTarget_of_inRange i hw, fun i hi => storeTarget_of_no_channel w hi, ?range, ?same, ?entry⟩
  case range =>
    intro i hw
    exact storeTarget_of_out_of_range i (by omega)
  case same =>
    rintro i hw rfl
    rw [storeTarget_of_inRange i hw, setTarget_self]
  case entry =>
    intro i hw hen hk
    refine ⟨_, _, storeTarget_of_inRange i hw, exec_compareMatch _, ?_⟩
    rw [compareEvent_cmp (s := s.setTarget i w) hen, interval_of_channel (p := (s.setTarget i w).phase.succ) hk]
    exact Vector.getElem_set_self _

/-! ### A run of events -/

theorem sinceGap_succ (p : Phase) : p.succ.sinceGap = (p.sinceGap + 1) % 5 := by cases p <;> rfl

theorem sinceGap_injective {p q : Phase} (h : p.sinceGap = q.sinceGap) : p = q := by
  cases p <;> cases q <;> simp_all [Phase.sinceGap]

theorem channel_eq_some_iff (p : Phase) (k : Channel) : p.channel = some k ↔ p.sinceGap = k.val + 1 := by
  revert k
  cases p <;> decide

/-- `n` events move phase `n` times around the cycle (R189). -/
theorem compareEvents_sinceGap {s : State} (h : s.interruptEnabled = true) (n : Nat) :
    (compareEvents n s).phase.sinceGap = (s.phase.sinceGap + n) % 5 := by
  induction n generalizing s with
  | zero => exact (Nat.mod_eq_of_lt (sinceGap_lt s.phase)).symm
  | succ n ih =>
    rw [compareEvents, ih (by simpa using h), (compareEvent_enabled h).1, sinceGap_succ]
    omega

/-- CMP is the interval of the phase, once an event has programmed it (R35). -/
theorem compareEvents_cmp {s : State} (h : s.interruptEnabled = true) (n : Nat) :
    (compareEvents (n + 1) s).cmp = interval s.cfg s.target (compareEvents (n + 1) s).phase := by
  induction n generalizing s with
  | zero =>
    rw [compareEvents, compareEvents, compareEvent_cmp h, (compareEvent_enabled h).1]
  | succ n ih =>
    rw [compareEvents, ih (by simpa using h), compareEvent_cfg, compareEvent_target]

/-- The records that `n` events add to PULSE from phase `p`. -/
def pulsesFrom (c : Config) (target : Vector Nat numChannels) : Phase → Nat → List Pulse
  | _, 0     => []
  | p, n + 1 => { phase := p.succ, count := interval c target p.succ } :: pulsesFrom c target p.succ n

theorem compareEvents_pulsesFrom {s : State} (h : s.interruptEnabled = true) (n : Nat) :
    (compareEvents n s).pulse = s.pulse ++ pulsesFrom s.cfg s.target s.phase n := by
  induction n generalizing s with
  | zero => exact (List.append_nil _).symm
  | succ n ih =>
    obtain ⟨hphase, hpulse, _⟩ := compareEvent_enabled h
    rw [compareEvents, ih (by simpa using h), hpulse, hphase, compareEvent_cmp h, compareEvent_cfg, compareEvent_target,
      List.append_assoc]
    rfl

/-- Settles O31: `n` steps around a cycle of five from Gap, one frame for each time around. -/
theorem nthCompareMatch : Obligations.NthCompareMatch := by
  intro s n hen hgap hfits
  refine ⟨?phase, ?tick, compareEvents_pulse_length hen n⟩
  case phase =>
    have hsince := compareEvents_sinceGap hen n
    rw [hgap, show Phase.sinceGap .gap = 0 from rfl, Nat.zero_add] at hsince
    split_ifs with h1 h2 h3 h4
    all_goals
      apply sinceGap_injective
      rw [hsince]
      simp only [Phase.sinceGap]
      omega
  case tick =>
    rw [compareEvents_tick hen hfits, hgap, framesEnded, show Phase.sinceGap .gap = 0 from rfl, Nat.zero_add]

/-- Settles O32: the five records of the cycle from Gap, and their sum between the bounds of the targets. -/
theorem fiveEventsMakeAFrame : Obligations.FiveEventsMakeAFrame := by
  intro s hen hgap
  constructor
  · rw [compareEvents_pulsesFrom hen, hgap]
    rfl
  · intro hrange
    have h0 : s.cfg.InRange s.target[0] := hrange 0
    have h1 : s.cfg.InRange s.target[1] := hrange 1
    have h2 : s.cfg.InRange s.target[2] := hrange 2
    have h3 : s.cfg.InRange s.target[3] := hrange 3
    omega

/-- How many events until the scheduler enters the pulse of channel `k`. -/
def eventsUntil (p : Phase) (k : Channel) : Nat := (k.val + 5 - p.sinceGap) % 5 + 1

/-- Settles O33: the first entry to the channel's state, around the cycle from any phase. -/
theorem storedWidthEmittedWithinOneFrame : Obligations.StoredWidthEmittedWithinOneFrame := by
  intro s k w hb hen hw
  have hsince : ∀ m, (compareEvents m (s.setTarget k w)).phase.sinceGap = (s.phase.sinceGap + m) % 5 :=
    compareEvents_sinceGap (s := s.setTarget k w) hen
  have hk : k.val < 4 := k.isLt
  have hp := sinceGap_lt s.phase
  have hentry : (compareEvents (eventsUntil s.phase k) (s.setTarget k w)).phase.channel = some k := by
    rw [channel_eq_some_iff, hsince, eventsUntil]
    omega
  refine ⟨s.setTarget k w, eventsUntil s.phase k, (exec_setTarget hb k w).trans (storeTarget_of_inRange k hw),
    Nat.succ_pos _, by unfold eventsUntil; omega, hentry, ?width, ?first⟩
  case width =>
    rw [eventsUntil, compareEvents_cmp (s := s.setTarget k w) hen, ← eventsUntil, interval_of_channel hentry]
    exact Vector.getElem_set_self _
  case first =>
    intro m hm hlt
    rw [Ne, channel_eq_some_iff, hsince]
    unfold eventsUntil at hlt
    omega

/-! ### Which operation writes what (R44) -/

/-- The host is at one position. -/
theorem hostAt_iff {s : State} {p q : HostPos} (h : s.HostAt p) : s.HostAt q ↔ q = p := by
  obtain ⟨hp, hs, rfl⟩ := h
  exact ⟨fun ⟨_, _, hq⟩ => hq.symm, fun hq => ⟨hp, hs, hq.symm⟩⟩

/-- A foreground step does the scheduler operation of the host's position, or leaves the scheduler's half alone. -/
theorem stepForeground_eq_next {s t : State} (h : stepForeground s = .next t) :
    (s.HostAt .bootSched ∧ ∃ u, initScheduler s = .next u ∧ SameScheduler u t) ∨
    (s.HostAt .waitEnable ∧ ∃ u, enableScheduler s = .next u ∧ SameScheduler u t) ∨
    (∃ k, s.HostAt (.cycleStore k) ∧ ∃ u, storeTarget k.val s.widths[k] s = .next u ∧ SameScheduler u t) ∨
    (s.HostAt .cycleClear ∧ SameScheduler (s.setTick 0) t) ∨
    (¬ s.HostAt .bootSched ∧ ¬ s.HostAt .waitEnable ∧ ¬ s.HostAt .cycleClear ∧ (∀ k, ¬ s.HostAt (.cycleStore k)) ∧
      SameScheduler s t) := by
  cases hp : s.pending with
  | some p =>
    rw [stepForeground_pending hp] at h
    cases h
    simp [hp, SameScheduler.refl]
  | none =>
    cases hs : s.seq with
    | some run =>
      rw [stepForeground_sequence hp hs] at h
      simp [hs, stepSequence_sameScheduler h]
    | none =>
      rw [stepForeground_host hp hs] at h
      simp only [State.HostAt, hp, hs, true_and]
      exact stepHost_eq_next h

/-- Settles O35: each write of the scheduler's half is that of the operation that was run. -/
theorem foregroundAccessRights : Obligations.ForegroundAccessRights := by
  refine ⟨?presented, ?host, ?engine⟩
  case presented =>
    intro i s t hi h
    obtain ⟨rfl, hInit⟩ | ⟨rfl, hEnable⟩ | ⟨c, w, rfl, hStore⟩ | ⟨rfl, rfl⟩ | ⟨hInit, hEnable, hClear, hStore, same⟩ :=
      exec_eq_next hi h
    · obtain ⟨_, rfl⟩ := initScheduler_eq_next hInit
      simp [outputsInactive]
    · obtain ⟨_, rfl⟩ := enableScheduler_eq_next hEnable
      simp
    · obtain ⟨hc, hw, rfl⟩ := storeTarget_eq_next hStore
      refine ⟨rfl, rfl, nofun, fun _ => ⟨rfl, rfl, rfl⟩, nofun, fun _ _ => rfl, nofun, fun _ => rfl, ?_,
        fun hne => absurd rfl (hne c w)⟩
      rintro _ _ ⟨⟩
      exact ⟨hw, ⟨c, hc⟩, rfl, rfl⟩
    · simp
    · obtain ⟨_, target, phase, out, ie, armed, cmp, tick, pulse⟩ := same
      exact ⟨cmp, pulse, fun e => absurd e hInit, fun _ => ⟨out, phase, armed⟩, fun e => absurd e hClear, fun _ _ => tick,
        fun e => absurd e hEnable, fun _ => ie, fun c w e => absurd e (hStore c w), fun _ => target⟩
  case host =>
    intro s t h
    obtain ⟨hat, u, hInit, same⟩ | ⟨hat, u, hEnable, same⟩ | ⟨k, hat, u, hStore, same⟩ | ⟨hat, same⟩ |
      ⟨hInit, hEnable, hClear, hStore, same⟩ := stepForeground_eq_next h
    · obtain ⟨_, rfl⟩ := initScheduler_eq_next hInit
      obtain ⟨_, target, phase, out, ie, armed, cmp, tick, pulse⟩ := same
      simp [hostAt_iff hat, target, phase, out, ie, armed, cmp, tick, pulse, outputsInactive]
    · obtain ⟨_, rfl⟩ := enableScheduler_eq_next hEnable
      obtain ⟨_, target, phase, out, ie, armed, cmp, tick, pulse⟩ := same
      simp [hostAt_iff hat, target, phase, out, ie, armed, cmp, tick, pulse]
    · obtain ⟨_, hw, rfl⟩ := storeTarget_eq_next hStore
      obtain ⟨_, target, phase, out, ie, armed, cmp, tick, pulse⟩ := same
      simpa [hostAt_iff hat, target, phase, out, ie, armed, cmp, tick, pulse] using hw
    · obtain ⟨_, target, phase, out, ie, armed, cmp, tick, pulse⟩ := same
      simp [hostAt_iff hat, target, phase, out, ie, armed, cmp, tick, pulse]
    · obtain ⟨_, target, phase, out, ie, armed, cmp, tick, pulse⟩ := same
      exact ⟨cmp, pulse, fun hat => absurd hat hInit, fun _ => ⟨out, phase, armed⟩, fun hat => absurd hat hClear,
        fun _ _ => tick, fun hat => absurd hat hEnable, fun _ => ie, fun k hat => absurd hat (hStore k), fun _ => target⟩
  case engine =>
    intro s a v
    obtain ⟨_, target, phase, out, ie, armed, cmp, tick, pulse⟩ := complete_sameScheduler a v s
    exact ⟨cmp, pulse, out, phase, armed, tick, ie, target⟩

/-! ### IE and ARMED -/

/-- The word of SCHED_ENABLE is the only one that decodes to it. -/
theorem word_of_schedEnable {l : Literals} {f : Fetch} (h : decode l f = .ok .schedEnable) : f = .command 0x21 [] := by
  cases f with
  | command n operands => exact (encode_of_decodeCommand (l := l) h).2.symm
  | wire place bits => exact (encode_of_decodeWire h).2.symm

/-- A turn that sets IE is SCHED_ENABLE's, presented or the host's, and finds the timer armed. -/
theorem takeTurn_sets_ie {turn : Turn} {s t : State} (h : takeTurn turn s = .next t) (hie : s.ie = false)
    (ht : t.ie = true) :
    s.armed = true ∧ (turn = .present (.command 0x21 []) ∨ (turn = .foreground ∧ s.pos = .waitEnable)) := by
  have hne : t.ie ≠ s.ie := by simp [hie, ht]
  cases turn with
  | foreground =>
    obtain ⟨_, u, hInit, same⟩ | ⟨⟨_, _, hpos⟩, u, hEnable, same⟩ | ⟨_, _, u, hStore, same⟩ | ⟨_, same⟩ |
      ⟨_, _, _, _, same⟩ := stepForeground_eq_next h
    · obtain ⟨_, rfl⟩ := initScheduler_eq_next hInit
      exact absurd same.ie hne
    · exact ⟨(enableScheduler_eq_next hEnable).1, .inr ⟨rfl, hpos⟩⟩
    · obtain ⟨_, _, rfl⟩ := storeTarget_eq_next hStore
      exact absurd same.ie hne
    · exact absurd same.ie hne
    · exact absurd same.ie hne
  | timer =>
    cases h
    rw [compareEvent_eq] at hne
    exact absurd rfl hne
  | shiftComplete a v =>
    cases h
    exact absurd (complete_sameScheduler a v s).ie hne
  | present f =>
    simp only [takeTurn, runWord] at h
    split at h
    · rename_i i hi
      by_cases hcm : i = .compareMatch
      · subst hcm
        cases h
        rw [compareEvent_eq] at hne
        exact absurd rfl hne
      · obtain ⟨_, hInit⟩ | ⟨rfl, hEnable⟩ | ⟨_, _, _, hStore⟩ | ⟨_, rfl⟩ | ⟨_, _, _, _, same⟩ := exec_eq_next hcm h
        · obtain ⟨_, rfl⟩ := initScheduler_eq_next hInit
          exact absurd rfl hne
        · exact ⟨(enableScheduler_eq_next hEnable).1, .inl (congrArg Turn.present (word_of_schedEnable hi))⟩
        · obtain ⟨_, _, rfl⟩ := storeTarget_eq_next hStore
          exact absurd rfl hne
        · exact absurd rfl hne
        · exact absurd same.ie hne
    · cases h

/-- Settles O34: one setter for each bit, and no turn that clears one. -/
theorem enableBitsAreNeverCleared : Obligations.EnableBitsAreNeverCleared := by
  refine ⟨?enable, ?init, fun s t h => step_enable_bits h, ?sets, ?event⟩
  case enable =>
    intro s t h
    obtain ⟨_, rfl⟩ := enableScheduler_eq_next (whenIdle_eq_next h).2
    exact ⟨rfl, rfl⟩
  case init =>
    intro s t h
    obtain ⟨_, rfl⟩ := initScheduler_eq_next (whenIdle_eq_next h).2
    exact ⟨rfl, rfl⟩
  case sets =>
    intro s t h hie ht
    have hie' : (nextTurn s).2.ie = false := by rw [nextTurn_state]; exact hie
    obtain ⟨harmed, hturn⟩ := takeTurn_sets_ie h hie' ht
    rw [nextTurn_state] at harmed hturn
    exact ⟨harmed, hturn⟩
  case event =>
    intro s hnot
    rw [exec_compareMatch, compareEvent_disabled]
    exact Bool.eq_false_of_not_eq_true fun hen => hnot ((interruptEnabled_iff s).mp hen).symm

end Sys2Proof.Machine
end

section
/-!
PROOFS. The reference host (43_reference_host.md R220 to R231): one lemma for the foreground turn at each position of BOOT,
WAIT_START and CYCLE, and the runs made of them.
-/

namespace Sys2Proof.Machine

/-! ### One foreground turn at each position -/

theorem pos_of_hostAt {s : State} {p : HostPos} (h : s.HostAt p) : s.pos = p := h.2.2

theorem takeTurn_host {s : State} {p : HostPos} (h : s.HostAt p) : takeTurn .foreground s = stepHost s :=
  stepForeground_host h.1 h.2.1

/-- A run whose first turn, the foreground's, is known. -/
theorem runTurns_foreground {s u : State} {ts : List Turn} {o : Out} (h : takeTurn .foreground s = .next u)
    (hrest : runTurns ts u = o) : runTurns (.foreground :: ts) s = o := by
  rw [runTurns_cons, h, andThen_next, hrest]

/-- A run whose first part is known. -/
theorem runTurns_append_of_next {s u : State} {l m : List Turn} {o : Out} (h : runTurns l s = .next u)
    (hrest : runTurns m u = o) : runTurns (l ++ m) s = o := by
  rw [runTurns_append, h, andThen_next, hrest]

section Positions

variable {s : State}

theorem turn_bootSensor (h : s.HostAt .bootSensor) (hb : s.busOpen = false) : takeTurn .foreground s =
    .next { s with seq := some { name := .sensorInit, pos := 0, got := [] }, pos := .bootSched } := by
  rw [takeTurn_host h, stepHost, pos_of_hostAt h]
  simp only [enterSequence_of_closed h.1 hb, mapNext_next]
  rfl

theorem turn_bootSched (h : s.HostAt .bootSched) (hie : s.ie = false) : takeTurn .foreground s =
    .next { s with out := outputsInactive, armed := true, phase := .gap, tick := 0, pos := .bootLoop } := by
  rw [takeTurn_host h, stepHost, pos_of_hostAt h]
  simp only [initScheduler_of_ie_false hie, mapNext_next]
  rfl

theorem turn_bootLoop (h : s.HostAt .bootLoop) : takeTurn .foreground s =
    .next { s with loop := .waitForStart, pos := .ready .waitStart } := by
  rw [takeTurn_host h, stepHost, pos_of_hostAt h]
  rfl

theorem turn_waitTest_pressed (h : s.HostAt .waitTest) (hc : s.sample.btn = s.cfg.btn.c) : takeTurn .foreground s =
    .next { s with pos := .waitCapture } := by
  rw [takeTurn_host h, stepHost, pos_of_hostAt h]
  simp only [testStart, if_pos hc]
  rfl

theorem turn_waitTest_other (h : s.HostAt .waitTest) (hb : s.busOpen = false) (hc : s.sample.btn ≠ s.cfg.btn.c) :
    takeTurn .foreground s = .next { s with seq := some { name := .requestSample, pos := 0, got := [] } } := by
  rw [takeTurn_host h, stepHost, pos_of_hostAt h]
  simp only [testStart, if_neg hc, enterSequence_of_closed h.1 hb]
  rw [← pos_of_hostAt h]
  rfl

theorem turn_waitCapture (h : s.HostAt .waitCapture) : takeTurn .foreground s =
    .next { s with calX := s.sample.x, calY := s.sample.y, pos := .waitEnable } := by
  rw [takeTurn_host h, stepHost, pos_of_hostAt h]
  rfl

theorem turn_waitEnable (h : s.HostAt .waitEnable) (harmed : s.armed = true) : takeTurn .foreground s =
    .next { s with ie := true, pos := .waitLoop } := by
  rw [takeTurn_host h, stepHost, pos_of_hostAt h]
  simp only [enableScheduler_of_armed harmed, mapNext_next]
  rfl

theorem turn_waitLoop (h : s.HostAt .waitLoop) : takeTurn .foreground s =
    .next { s with loop := .running, pos := .ready .cycle } := by
  rw [takeTurn_host h, stepHost, pos_of_hostAt h]
  rfl

theorem turn_cycleJudge_kept (h : s.HostAt .cycleJudge) (haz : s.sample.az ≠ s.cfg.lit.sentinel) : takeTurn .foreground s =
    .next { s with pos := .cycleRezero } := by
  rw [takeTurn_host h, stepHost, pos_of_hostAt h]
  simp only [judgeSample, if_neg haz]
  rfl

theorem turn_cycleRezero_pressed (h : s.HostAt .cycleRezero) (hc : s.sample.btn = s.cfg.btn.c) : takeTurn .foreground s =
    .next { s with pos := .cycleCapture } := by
  rw [takeTurn_host h, stepHost, pos_of_hostAt h]
  simp only [testRezero, if_pos hc]
  rfl

theorem turn_cycleRezero_other (h : s.HostAt .cycleRezero) (hc : s.sample.btn ≠ s.cfg.btn.c) : takeTurn .foreground s =
    .next { s with pos := .cycleScaleX } := by
  rw [takeTurn_host h, stepHost, pos_of_hostAt h]
  simp only [testRezero, if_neg hc]
  rfl

theorem turn_cycleCapture (h : s.HostAt .cycleCapture) : takeTurn .foreground s =
    .next { s with calX := s.sample.x, calY := s.sample.y, pos := .cycleScaleX } := by
  rw [takeTurn_host h, stepHost, pos_of_hostAt h]
  rfl

theorem turn_cycleScaleX (h : s.HostAt .cycleScaleX) : takeTurn .foreground s = .next { s with
    dx := scaleStick s.sample.x s.calX, ret := .displacement (scaleStick s.sample.x s.calX), pos := .cycleScaleY } := by
  rw [takeTurn_host h, stepHost, pos_of_hostAt h]
  rfl

theorem turn_cycleScaleY (h : s.HostAt .cycleScaleY) : takeTurn .foreground s = .next { s with
    dy := scaleStick s.sample.y s.calY, ret := .displacement (scaleStick s.sample.y s.calY), pos := .cycleMode } := by
  rw [takeTurn_host h, stepHost, pos_of_hostAt h]
  rfl

theorem turn_cycleMode (h : s.HostAt .cycleMode) : takeTurn .foreground s = .next { s with
    mode := modeOf s.cfg s.sample.btn s.dx s.dy, ret := .mode (modeOf s.cfg s.sample.btn s.dx s.dy), pos := .cycleMap } := by
  rw [takeTurn_host h, stepHost, pos_of_hostAt h]
  rfl

theorem turn_cycleMap (h : s.HostAt .cycleMap) : takeTurn .foreground s = .next { s with
    widths := mapWidths s.cfg s.dx s.dy s.mode, ret := .widths (mapWidths s.cfg s.dx s.dy s.mode), pos := .cycleStore 0 } := by
  rw [takeTurn_host h, stepHost, pos_of_hostAt h]
  rfl

theorem turn_cycleStore {k : Channel} (h : s.HostAt (.cycleStore k)) (hw : s.cfg.InRange s.widths[k]) :
    takeTurn .foreground s = .next { s with target := s.target.set k s.widths[k], pos := afterStore k } := by
  rw [takeTurn_host h, stepHost, pos_of_hostAt h]
  simp only [storeTarget_of_inRange k hw, mapNext_next]
  rfl

theorem turn_cyclePace_early (h : s.HostAt .cyclePace) (ht : s.tick < s.cfg.lit.paceFrames) : takeTurn .foreground s =
    .next { s with ret := .tick s.tick } := by
  rw [takeTurn_host h, stepHost, pos_of_hostAt h]
  simp only [pollTick, if_neg (Nat.not_le.mpr ht)]
  rw [← pos_of_hostAt h]
  rfl

theorem turn_cyclePace_due (h : s.HostAt .cyclePace) (ht : s.cfg.lit.paceFrames ≤ s.tick) : takeTurn .foreground s =
    .next { s with ret := .tick s.tick, pos := .cycleClear } := by
  rw [takeTurn_host h, stepHost, pos_of_hostAt h]
  simp only [pollTick, if_pos ht]
  rfl

theorem turn_cycleClear (h : s.HostAt .cycleClear) : takeTurn .foreground s =
    .next { s with tick := 0, pos := .ready .cycle } := by
  rw [takeTurn_host h, stepHost, pos_of_hostAt h]
  rfl

end Positions

/-! ### BOOT -/

/-- Settles O47: BUS_INIT at once, then SENSOR_INIT entered, driven to its end, and SCHED_INIT. -/
theorem bootInitialisesTheBlock : Obligations.BootInitialisesTheBlock := by
  intro s d hok hb hie
  have hs := seq_of_atBoundary hb
  refine ⟨whenIdle_of_atBoundary hb fun s => .next ((initBus s).setPos .bootSensor), ?_⟩
  rw [List.append_assoc, List.singleton_append]
  refine runTurns_foreground (turn_bootSensor ⟨rfl, hs, rfl⟩ rfl) ?_
  refine runTurns_append_of_next (driveSequence_sensorInit (s := { s with
    busOpen := false, pending := none, pos := .bootSched, seq := some { name := .sensorInit, pos := 0, got := [] } })
    hok d rfl rfl rfl) ?_
  refine runTurns_foreground (turn_bootSched ⟨rfl, rfl, rfl⟩ hie) (runTurns_foreground (turn_bootLoop ⟨rfl, rfl, rfl⟩) ?_)
  rw [runTurns_nil, ← hs]
  rfl

/-! ### WAIT_START -/

/-- A procedure that begins with REQUEST_SAMPLE and goes on at position `p`. -/
theorem whenIdle_requestSample {s : State} (h : s.atBoundary = true) (hb : s.busOpen = false) (p : HostPos) :
    (whenIdle s fun s => mapNext (enterSequence .requestSample s) (State.setPos p)) =
      .next { s with seq := some { name := .requestSample, pos := 0, got := [] }, pos := p } := by
  rw [whenIdle_of_atBoundary h, enterSequence_of_closed (pending_of_atBoundary h) hb]
  rfl

/-- Settles O48: the test of the code, and the three turns that follow it on C. -/
theorem waitStartEndsOnC : Obligations.WaitStartEndsOnC := by
  refine ⟨fun s hb hclosed => whenIdle_requestSample hb hclosed .waitTest, ?test⟩
  intro s hat hclosed
  have ⟨hp, hs, _⟩ := hat
  refine ⟨fun hc harmed => ⟨?capture, ?enable, ?loop⟩, fun hc => turn_waitTest_other hat hclosed hc⟩
  case capture =>
    exact runTurns_foreground (turn_waitTest_pressed hat hc) (runTurns_foreground (turn_waitCapture ⟨hp, hs, rfl⟩) rfl)
  case enable =>
    exact runTurns_foreground (turn_waitTest_pressed hat hc) (runTurns_foreground (turn_waitCapture ⟨hp, hs, rfl⟩)
      (runTurns_foreground (turn_waitEnable ⟨hp, hs, rfl⟩ harmed) rfl))
  case loop =>
    exact runTurns_foreground (turn_waitTest_pressed hat hc) (runTurns_foreground (turn_waitCapture ⟨hp, hs, rfl⟩)
      (runTurns_foreground (turn_waitEnable ⟨hp, hs, rfl⟩ harmed) (runTurns_foreground (turn_waitLoop ⟨hp, hs, rfl⟩) rfl)))

/-! ### CYCLE: from the sample to the widths -/

/-- Scaling, the mode and the mapping, a turn each, from the CAL that step b left. -/
theorem runTurns_scale {s : State} (h : s.HostAt .cycleScaleX) {dx dy : Int} {m : Mode} {w : Vector Nat numChannels}
    (hdx : dx = scaleStick s.sample.x s.calX) (hdy : dy = scaleStick s.sample.y s.calY)
    (hm : m = modeOf s.cfg s.sample.btn dx dy) (hw : w = mapWidths s.cfg dx dy m) :
    runTurns (List.replicate 4 .foreground) s =
      .next { s with dx := dx, dy := dy, mode := m, widths := w, ret := .widths w, pos := .cycleStore 0 } := by
  subst hdx hdy hm hw
  exact runTurns_foreground (turn_cycleScaleX h) (runTurns_foreground (turn_cycleScaleY ⟨h.1, h.2.1, rfl⟩)
    (runTurns_foreground (turn_cycleMode ⟨h.1, h.2.1, rfl⟩) (runTurns_foreground (turn_cycleMap ⟨h.1, h.2.1, rfl⟩) rfl)))

/-- Steps a and b on C: the sample is kept, and CAL takes it. -/
theorem runTurns_rezero {s : State} (h : s.HostAt .cycleJudge) (haz : s.sample.az ≠ s.cfg.lit.sentinel)
    (hc : s.sample.btn = s.cfg.btn.c) : runTurns (List.replicate 3 .foreground) s =
      .next { s with calX := s.sample.x, calY := s.sample.y, pos := .cycleScaleX } :=
  runTurns_foreground (turn_cycleJudge_kept h haz) (runTurns_foreground (turn_cycleRezero_pressed ⟨h.1, h.2.1, rfl⟩ hc)
    (runTurns_foreground (turn_cycleCapture ⟨h.1, h.2.1, rfl⟩) rfl))

/-- Steps a and b on any other code: the sample is kept, and so is CAL. -/
theorem runTurns_keepCal {s : State} (h : s.HostAt .cycleJudge) (haz : s.sample.az ≠ s.cfg.lit.sentinel)
    (hc : s.sample.btn ≠ s.cfg.btn.c) : runTurns (List.replicate 2 .foreground) s = .next { s with pos := .cycleScaleX } :=
  runTurns_foreground (turn_cycleJudge_kept h haz) (runTurns_foreground (turn_cycleRezero_other ⟨h.1, h.2.1, rfl⟩ hc) rfl)

theorem modeOf_zero {c : Config} (hlit : c.lit = {}) (btn : Code2) : modeOf c btn 0 0 = .neutral :=
  modeOf_of_inDeadzone ((inDeadzone_iff hlit 0 0).mpr (by simp)) btn

theorem mapWidths_zero {c : Config} (hlit : c.lit = {}) (m : Mode) : mapWidths c 0 0 m = c.center :=
  mapWidths_of_inDeadzone ((inDeadzone_iff hlit 0 0).mpr (by simp)) m

theorem az_ne_sentinel {s : State} (hok : s.cfg.Ok) (haz : s.sample.az ≠ 0xFF) : s.sample.az ≠ s.cfg.lit.sentinel := by
  rwa [hok.lit_default]

/-- Settles O50: on C the displacement is taken from the CAL just captured, so it is zero; otherwise each local has its turn. -/
theorem rezeroOnCOnly : Obligations.RezeroOnCOnly := by
  intro s hok hat haz
  have hsentinel := az_ne_sentinel hok haz
  have ⟨hp, hs, _⟩ := hat
  constructor
  · intro hc
    have hrezero := runTurns_rezero hat hsentinel hc
    refine ⟨hrezero, runTurns_append_of_next (m := List.replicate 4 .foreground) hrezero ?_⟩
    exact runTurns_scale (s := { s with calX := s.sample.x, calY := s.sample.y, pos := .cycleScaleX }) ⟨hp, hs, rfl⟩
      (scaleStick_self _).symm (scaleStick_self _).symm (modeOf_zero hok.lit_default _).symm
      (mapWidths_zero hok.lit_default _).symm
  · rintro hc _ _ _ _ rfl rfl rfl rfl
    have hkeep := runTurns_keepCal hat hsentinel hc
    have hx := turn_cycleScaleX (s := { s with pos := .cycleScaleX }) ⟨hp, hs, rfl⟩
    refine ⟨hkeep, ?_, ?_, ?_, ?_⟩
    · exact runTurns_append_of_next hkeep (runTurns_foreground hx rfl)
    · exact runTurns_append_of_next hkeep (runTurns_foreground hx (runTurns_foreground (turn_cycleScaleY ⟨hp, hs, rfl⟩) rfl))
    · exact runTurns_append_of_next hkeep (runTurns_foreground hx (runTurns_foreground (turn_cycleScaleY ⟨hp, hs, rfl⟩)
        (runTurns_foreground (turn_cycleMode ⟨hp, hs, rfl⟩) rfl)))
    · exact runTurns_append_of_next (m := List.replicate 4 .foreground) hkeep
        (runTurns_scale (s := { s with pos := .cycleScaleX }) ⟨hp, hs, rfl⟩ rfl rfl rfl rfl)

/-! ### CYCLE: the stores and the pacing wait -/

/-- Two stores, one turn each. -/
theorem runTurns_store_zero_one {s : State} (h : s.HostAt (.cycleStore 0)) (hw : ∀ i : Channel, s.cfg.InRange s.widths[i]) :
    runTurns [.foreground, .foreground] s =
      .next { s with target := (s.target.set 0 s.widths[0]).set 1 s.widths[1], pos := .cycleStore 2 } :=
  runTurns_foreground (turn_cycleStore h (hw 0)) (runTurns_foreground (turn_cycleStore (k := 1) ⟨h.1, h.2.1, rfl⟩ (hw 1)) rfl)

theorem runTurns_store_two_three {s : State} (h : s.HostAt (.cycleStore 2)) (hw : ∀ i : Channel, s.cfg.InRange s.widths[i]) :
    runTurns [.foreground, .foreground] s =
      .next { s with target := (s.target.set 2 s.widths[2]).set 3 s.widths[3], pos := .cyclePace } :=
  runTurns_foreground (turn_cycleStore h (hw 2)) (runTurns_foreground (turn_cycleStore (k := 3) ⟨h.1, h.2.1, rfl⟩ (hw 3)) rfl)

/-- Four stores, whatever the targets were, leave the four widths. -/
theorem set_four {α : Type} (t w : Vector α 4) : (((t.set 0 w[0]).set 1 w[1]).set 2 w[2]).set 3 w[3] = w := by
  apply Vector.ext
  intro i hi
  match i, hi with
  | 0, _ => simp
  | 1, _ => simp
  | 2, _ => simp
  | 3, _ => simp

theorem runTurns_store {s : State} (h : s.HostAt (.cycleStore 0)) (hw : ∀ i : Channel, s.cfg.InRange s.widths[i]) :
    runTurns (List.replicate 4 .foreground) s = .next { s with target := s.widths, pos := .cyclePace } := by
  refine (runTurns_append_of_next (runTurns_store_zero_one h hw)
    (runTurns_store_two_three ⟨h.1, h.2.1, rfl⟩ hw)).trans ?_
  rw [set_four]

/-- Settles O51: one store a turn, channel 0 first. -/
theorem fourStoresInChannelOrder : Obligations.FourStoresInChannelOrder := by
  intro s hp hs hpos hw
  have hat : s.HostAt (.cycleStore 0) := ⟨hp, hs, hpos⟩
  exact ⟨runTurns_foreground (turn_cycleStore hat (hw 0)) rfl, runTurns_store_zero_one hat hw, runTurns_store hat hw⟩

theorem paceFrames_eq {c : Config} (hok : c.Ok) : c.lit.paceFrames = 20 := by rw [hok.lit_default]

theorem runTurns_pace {s : State} (h : s.HostAt .cyclePace) (ht : s.cfg.lit.paceFrames ≤ s.tick) :
    runTurns [.foreground, .foreground] s = .next { s with ret := .tick s.tick, tick := 0, pos := .ready .cycle } :=
  runTurns_foreground (turn_cyclePace_due h ht) (runTurns_foreground (turn_cycleClear ⟨h.1, h.2.1, rfl⟩) rfl)

/-- Settles O52: the poll's own test, at R7's PACE_FRAMES. -/
theorem pacingWaitsForTwentyTicks : Obligations.PacingWaitsForTwentyTicks := by
  intro s hok hp hs hpos
  rw [← paceFrames_eq hok]
  exact ⟨turn_cyclePace_early ⟨hp, hs, hpos⟩, runTurns_pace ⟨hp, hs, hpos⟩⟩

/-! ### A whole CYCLE -/

/-- The stores and the pacing wait, with TICK already at PACE_FRAMES. -/
theorem runTurns_store_pace {s : State} (h : s.HostAt (.cycleStore 0)) (hw : ∀ i : Channel, s.cfg.InRange s.widths[i])
    (ht : s.cfg.lit.paceFrames ≤ s.tick) : runTurns (List.replicate 6 .foreground) s =
      .next { s with target := s.widths, ret := .tick s.tick, tick := 0, pos := .ready .cycle } :=
  runTurns_append_of_next (runTurns_store h hw) (runTurns_pace ⟨h.1, h.2.1, rfl⟩ ht)

/-- The mode that the sample at hand gives from the zero point (x0, y0). -/
def sampleMode (x0 y0 : Byte) (s : State) : Mode :=
  modeOf s.cfg s.sample.btn (scaleStick s.sample.x x0) (scaleStick s.sample.y y0)

/-- The widths that the sample at hand gives from the zero point (x0, y0). -/
def sampleWidths (x0 y0 : Byte) (s : State) : Vector Nat numChannels :=
  mapWidths s.cfg (scaleStick s.sample.x x0) (scaleStick s.sample.y y0) (sampleMode x0 y0 s)

/-- What a CYCLE leaves from the sample at hand, CAL being (x0, y0) after step b. -/
def afterCycle (x0 y0 : Byte) (s : State) : State :=
  { s with
    calX := x0
    calY := y0
    dx := scaleStick s.sample.x x0
    dy := scaleStick s.sample.y y0
    mode := sampleMode x0 y0 s
    widths := sampleWidths x0 y0 s
    target := sampleWidths x0 y0 s
    ret := .tick s.tick
    tick := 0
    pos := .ready .cycle }

/-- CYCLE from the displacement to CLR_TICK. -/
theorem runTurns_scale_to_clear {s : State} (hok : s.cfg.Ok) (h : s.HostAt .cycleScaleX)
    (ht : s.cfg.lit.paceFrames ≤ s.tick) :
    runTurns (List.replicate 10 .foreground) s = .next (afterCycle s.calX s.calY s) := by
  refine runTurns_append_of_next (runTurns_scale h rfl rfl rfl rfl) (runTurns_store_pace ⟨h.1, h.2.1, rfl⟩ (fun i => ?_) ht)
  exact (getElem_mapWidths ..).symm ▸ mapWidth_inRange hok _ _ _ i

/-- CYCLE from its sample on, where C re-zeroes CAL first. -/
theorem runTurns_cycle_pressed {s : State} (hok : s.cfg.Ok) (h : s.HostAt .cycleJudge)
    (haz : s.sample.az ≠ s.cfg.lit.sentinel) (ht : s.cfg.lit.paceFrames ≤ s.tick) (hc : s.sample.btn = s.cfg.btn.c) :
    runTurns (List.replicate 13 .foreground) s = .next (afterCycle s.sample.x s.sample.y s) :=
  runTurns_append_of_next (m := List.replicate 10 .foreground) (runTurns_rezero h haz hc)
    (runTurns_scale_to_clear (s := { s with calX := s.sample.x, calY := s.sample.y, pos := .cycleScaleX }) hok
      ⟨h.1, h.2.1, rfl⟩ ht)

theorem runTurns_cycle_other {s : State} (hok : s.cfg.Ok) (h : s.HostAt .cycleJudge)
    (haz : s.sample.az ≠ s.cfg.lit.sentinel) (ht : s.cfg.lit.paceFrames ≤ s.tick) (hc : s.sample.btn ≠ s.cfg.btn.c) :
    runTurns (List.replicate 12 .foreground) s = .next (afterCycle s.calX s.calY s) :=
  runTurns_append_of_next (m := List.replicate 10 .foreground) (runTurns_keepCal h haz hc)
    (runTurns_scale_to_clear (s := { s with pos := .cycleScaleX }) hok ⟨h.1, h.2.1, rfl⟩ ht)

/-- The six bytes of a REQUEST_SAMPLE's read, as a sample. -/
theorem sampleOf_requestSample (d : Nat → Ack × Byte) : sampleOf {} (bytesFrom d 0 (SeqName.requestSample.steps {})) =
    some { x := (d 7).2, y := (d 8).2, ax := (d 9).2, ay := (d 10).2, az := (d 11).2,
           btn := ((d 12).2 &&& 0b11).setWidth 2 } := rfl

/-- Settles O53: the read, then the turns of steps a and b on either branch, then those from the displacement to CLR_TICK. -/
theorem cycleMapsTheSampleToTargets : Obligations.CycleMapsTheSampleToTargets := by
  intro s d v hok hb hclosed htick hv haz
  have hp := pending_of_atBoundary hb
  rw [← paceFrames_eq hok] at htick
  refine ⟨whenIdle_requestSample hb hclosed .cycleJudge, ?_⟩
  have hread := driveSequence_sample (v := v) (n := .requestSample)
    (s := { s with seq := some { name := .requestSample, pos := 0, got := [] }, pos := .cycleJudge })
    hok d hp hclosed rfl nofun (by rw [hv]; exact sampleOf_requestSample d)
  have hsentinel : v.az ≠ s.cfg.lit.sentinel := by rwa [hok.lit_default]
  by_cases hc : v.btn = s.cfg.btn.c
  · rw [if_pos hc]
    refine ⟨_, runTurns_append_of_next hread (runTurns_cycle_pressed ?_ ?_ ?_ ?_ ?_), rfl, fun _ => ⟨rfl, rfl⟩,
      fun hne => absurd hc hne, rfl, rfl, rfl, rfl, hclosed, hp, rfl, rfl, rfl, rfl, rfl, rfl, rfl⟩
    exacts [hok, ⟨hp, rfl, rfl⟩, hsentinel, htick, hc]
  · rw [if_neg hc]
    refine ⟨_, runTurns_append_of_next hread (runTurns_cycle_other ?_ ?_ ?_ ?_ ?_), rfl, fun he => absurd he hc,
      fun _ => ⟨rfl, rfl⟩, rfl, rfl, rfl, rfl, hclosed, hp, rfl, rfl, rfl, rfl, rfl, rfl, rfl⟩
    exacts [hok, ⟨hp, rfl, rfl⟩, hsentinel, htick, hc]

end Sys2Proof.Machine
end

section
/-!
PROOFS. The hazards of interleaving (20_memory.md section 3; 70_reset_and_hazards.md section 3): a tick lost between the poll
and the clear, and one frame with the widths of two commands.
-/

namespace Sys2Proof.Machine

/-- A run whose first turn is the timer's. -/
theorem runTurns_timer {s : State} {ts : List Turn} {o : Out} (hrest : runTurns ts (compareEvent s) = o) :
    runTurns (.timer :: ts) s = o := hrest

/-- An event leaves the host where it is. -/
theorem hostAt_compareEvent {s : State} {p : HostPos} (h : s.HostAt p) : (compareEvent s).HostAt p := by
  rw [compareEvent_eq]
  exact h

/-- Settles O54: the clear after the event overwrites the tick, the event after the clear counts from 0. -/
theorem tickBetweenReadAndClearIsLost : Obligations.TickBetweenReadAndClearIsLost := by
  intro s hok hp hs hpos hen hphase htick
  rw [← paceFrames_eq hok] at htick
  have hat : s.HostAt .cyclePace := ⟨hp, hs, hpos⟩
  have hsucc : s.phase.succ = .gap := by rw [hphase]; rfl
  obtain ⟨hlost, _, _⟩ := compareEvent_enabled (s := { s with ret := .tick s.tick, pos := .cycleClear }) hen
  obtain ⟨hkept, _, hone⟩ := compareEvent_enabled (s := { s with ret := .tick s.tick, tick := 0, pos := .ready .cycle }) hen
  refine ⟨{ compareEvent { s with ret := .tick s.tick, pos := .cycleClear } with tick := 0, pos := .ready .cycle }, _,
    ?between, rfl, hlost.trans hsucc, ?after, ?tick, hkept.trans hsucc⟩
  case between =>
    exact runTurns_foreground (turn_cyclePace_due hat htick)
      (runTurns_timer (runTurns_foreground (turn_cycleClear (hostAt_compareEvent ⟨hp, hs, rfl⟩)) rfl))
  case after =>
    exact runTurns_append_of_next (m := [.timer]) (runTurns_pace hat htick) (runTurns_timer rfl)
  case tick =>
    rw [hone, if_pos hsucc]
    exact Nat.mod_eq_of_lt (Nat.one_lt_two_pow hok.tickBits_pos.ne')

theorem legal_pulse {c : Config} {p : Phase} {n : Nat} (hp : p ≠ .gap) (hn : c.InRange n) :
    Pulse.Legal c { phase := p, count := n } := by
  rw [Pulse.Legal, if_neg hp]
  exact hn

/-- The host after the first two stores of a cycle. -/
def halfStored (s : State) : State :=
  { s with target := (s.target.set 0 s.widths[0]).set 1 s.widths[1], pos := .cycleStore 2 }

/-- The two events after the first two stores: P1 has the new width, P2 still the old one. -/
theorem compareEvents_halfStored_pulse {s : State} (hen : s.interruptEnabled = true) (hphase : s.phase = .p0) :
    (compareEvents 2 (halfStored s)).pulse =
      s.pulse ++ [{ phase := .p1, count := s.widths[1] }, { phase := .p2, count := s.target[2] }] := by
  rw [compareEvents_pulsesFrom (s := halfStored s) hen]
  simp [halfStored, hphase, pulsesFrom, interval, Phase.succ, Phase.channel, numChannels]

theorem compareEvents_halfStored_phase {s : State} (hen : s.interruptEnabled = true) (hphase : s.phase = .p0) :
    (compareEvents 2 (halfStored s)).phase = .p2 := by
  apply sinceGap_injective
  rw [compareEvents_sinceGap (s := halfStored s) hen]
  simp [halfStored, hphase, Phase.sinceGap]

/-- The last two stores, the two events having come before them. -/
theorem runTurns_store_rest {s : State} (hat : s.HostAt (.cycleStore 0)) (hw : ∀ i : Channel, s.cfg.InRange s.widths[i]) :
    runTurns [.foreground, .foreground] (compareEvents 2 (halfStored s)) =
      .next { compareEvents 2 (halfStored s) with target := s.widths, pos := .cyclePace } := by
  have hframe := compareEvents_eq 2 (halfStored s)
  have hhalf : (compareEvents 2 (halfStored s)).HostAt (.cycleStore 2) := by
    rw [hframe]
    exact ⟨hat.1, hat.2.1, rfl⟩
  refine (runTurns_store_two_three hhalf ?_).trans ?_
  · rw [hframe]
    exact hw
  · have hfour : (((compareEvents 2 (halfStored s)).target.set 2 (compareEvents 2 (halfStored s)).widths[2]).set 3
        (compareEvents 2 (halfStored s)).widths[3]) = s.widths := by
      rw [hframe]
      exact set_four s.target s.widths
    rw [hfour]

/-- Settles O55: the events after two stores and after four read the targets as they then are. -/
theorem frameCanMixTwoCommands : Obligations.FrameCanMixTwoCommands := by
  intro s hat hen hphase hwidths htargets
  have hlast := compareEvents_halfStored_phase hen hphase
  have hen3 : State.interruptEnabled { compareEvents 2 (halfStored s) with target := s.widths, pos := .cyclePace } = true := by
    rw [compareEvents_eq]
    exact hen
  obtain ⟨_, hpulse, _⟩ := compareEvent_enabled hen3
  refine ⟨compareEvent { compareEvents 2 (halfStored s) with target := s.widths, pos := .cyclePace }, _, ?run, rfl, ?pulse,
    ?legal, compareEvent_target _⟩
  case run =>
    exact runTurns_append_of_next (m := [.timer, .timer, .foreground, .foreground, .timer])
      (runTurns_store_zero_one hat hwidths) (runTurns_timer (runTurns_timer
        (runTurns_append_of_next (m := [.timer]) (runTurns_store_rest hat hwidths) (runTurns_timer rfl))))
  case pulse =>
    rw [hpulse, compareEvent_cmp hen3, compareEvents_halfStored_pulse hen hphase, hlast, List.append_assoc]
    rfl
  case legal =>
    intro p hp
    simp only [List.mem_cons, List.not_mem_nil, or_false] at hp
    obtain rfl | rfl | rfl := hp
    · exact legal_pulse nofun (hwidths 1)
    · exact legal_pulse nofun (htargets 2)
    · exact legal_pulse nofun (hwidths 3)

end Sys2Proof.Machine
end

section
/-!
PROOFS. The patterns on the wire (30_encoding.md R90 to R99): a byte transferred for the host or for the sequence that runs, and
the patterns made of such bytes.
-/

namespace Sys2Proof.Machine

/-! ### One transfer -/

theorem transfer_of_pending {s : State} {p : Prim} (hp : s.pending = some p) (a : Ack) (v : Byte) :
    transfer p a v s = .next (complete a v s) := by
  simp [transfer, putInFlight, hp]

/-- A host's transfer, issued between operations and completed. -/
theorem transfer_of_atBoundary {s : State} {p : Prim} (hb : s.atBoundary = true) (hopen : s.busOpen = p.needsOpen) (a : Ack)
    (v : Byte) : transfer p a v s = .next (complete a v { s with pending := some p }) := by
  have hp := pending_of_atBoundary hb
  have hs := seq_of_atBoundary hb
  have hput : putInFlight p s = issue p s := by
    simp only [putInFlight, hp, hs, if_pos hb]
  rw [transfer, hput, issue_of_legal hp hopen, mapNext_next]
  rfl

/-- The sequence's next transfer, issued and completed. -/
theorem transfer_of_sequence {s : State} {p : Prim} {run : SeqRun} (hp : s.pending = none) (hs : s.seq = some run)
    (hx : run.next s.cfg.lit = some (.prim p)) (hopen : s.busOpen = p.needsOpen) (a : Ack) (v : Byte) :
    transfer p a v s = .next { s with
      busOpen := openStep s.busOpen (.prim p)
      wire := s.wire ++ [wireOf (a, v) (.prim p)]
      seq := some { run with pos := run.pos + 1, got := run.got ++ byteOf (a, v) (.prim p) } } := by
  have hstep : stepSequence run s = .next ((s.setSeq (some { run with pos := run.pos + 1 })).setPending (some p)) := by
    simp only [stepSequence, hx]
    exact issue_of_legal hp hopen
  have hput : putInFlight p s = stepSequence run s := by
    simp only [putInFlight, hp, hs, if_pos hx]
  rw [transfer, hput, hstep, mapNext_next, complete_of_sequence rfl rfl, ← hp]
  rfl

/-- The same, where BUS_OPEN does not allow it. -/
theorem transfer_of_sequence_refused {s : State} {p : Prim} {run : SeqRun} (hp : s.pending = none) (hs : s.seq = some run)
    (hx : run.next s.cfg.lit = some (.prim p)) (hopen : s.busOpen ≠ p.needsOpen) (a : Ack) (v : Byte) :
    transfer p a v s = .refused .busOrder := by
  have hstep : stepSequence run s = .refused .busOrder := by
    simp only [stepSequence, hx]
    exact issue_of_wrong_order hp hopen
  have hput : putInFlight p s = stepSequence run s := by
    simp only [putInFlight, hp, hs, if_pos hx]
  rw [transfer, hput, hstep, mapNext_refused]

/-! ### WIRE.BYTE -/

theorem nextTransfer_of_pending {s : State} {p : Prim} (hp : s.pending = some p) : s.nextTransfer = some p := by
  simp [State.nextTransfer, hp]

theorem nextTransfer_of_idle {s : State} (hp : s.pending = none) (hs : s.seq = none) : s.nextTransfer = none := by
  simp [State.nextTransfer, hp, hs]

theorem nextTransfer_eq_some_iff {s : State} {run : SeqRun} (hp : s.pending = none) (hs : s.seq = some run) (p : Prim) :
    s.nextTransfer = some p ↔ run.next s.cfg.lit = some (.prim p) := by
  simp only [State.nextTransfer, hp, hs]
  split <;> simp_all

/-- The controller's answer, as a bit: ACK exactly at the level that means ACK. -/
theorem slotAck_eq_readAck_iff (c : Config) (bit k : Bool) : slotAck c bit = readAck k ↔ k = decide (bit = c.ackLevel) := by
  unfold slotAck readAck
  split_ifs <;> simp_all

theorem execWireByte_sent {s : State} {b : Byte} (h : s.nextTransfer = some (.write b)) (bit : Bool) :
    execWireByte b bit s = transfer (.write b) (slotAck s.cfg bit) b s := by
  simp [execWireByte, h]

theorem execWireByte_received {s : State} {bit : Bool} (h : s.nextTransfer = some (.read (decide (bit = s.cfg.ackLevel))))
    (b : Byte) : execWireByte b bit s = transfer (.read (decide (bit = s.cfg.ackLevel))) (slotAck s.cfg bit) b s := by
  simp only [execWireByte, h, if_pos ((slotAck_eq_readAck_iff s.cfg bit _).mpr rfl)]

/-- A pattern that the next transfer does not carry. -/
theorem execWireByte_refused {s : State} {b : Byte} {bit : Bool} (hsent : s.nextTransfer ≠ some (.write b))
    (hreceived : s.nextTransfer ≠ some (.read (decide (bit = s.cfg.ackLevel)))) :
    execWireByte b bit s = .refused .otherTransfer := by
  unfold execWireByte
  split
  · rename_i c hc
    rw [if_neg]
    rintro rfl
    exact hsent hc
  · rename_i k hk
    rw [if_neg]
    intro hslot
    rw [(slotAck_eq_readAck_iff s.cfg bit k).mp hslot] at hk
    exact hreceived hk
  all_goals rfl

theorem readAck_decide (c : Config) (bit : Bool) : readAck (decide (bit = c.ackLevel)) = slotAck c bit :=
  ((slotAck_eq_readAck_iff c bit _).mpr rfl).symm

/-- Settles O56: which transfer comes next, and whether it carries the pattern, decides. -/
theorem wireByteCompletesTheTransfer : Obligations.WireByteCompletesTheTransfer := by
  rintro s b bit _ rfl
  refine ⟨?other, ?host, ?sequence⟩
  case other =>
    intro p hp hsent hreceived
    exact execWireByte_refused (by simpa [nextTransfer_of_pending hp] using hsent)
      (by simpa [nextTransfer_of_pending hp] using hreceived)
  case host =>
    intro hs
    refine ⟨?_, ?_, ?_⟩
    · intro hp
      refine (execWireByte_sent (nextTransfer_of_pending hp) bit).trans ((transfer_of_pending hp _ _).trans ?_)
      rw [complete_write_host hp hs]
      rfl
    · intro hp
      refine (execWireByte_received (nextTransfer_of_pending hp) b).trans ((transfer_of_pending hp _ _).trans ?_)
      rw [complete_read_host hp hs, readAck_decide]
      rfl
    · intro hp
      exact execWireByte_refused (by simp [nextTransfer_of_idle hp hs]) (by simp [nextTransfer_of_idle hp hs])
  case sequence =>
    intro run hs
    refine ⟨?_, ?_, ?_, ?_, ?_⟩
    · intro hp
      refine (execWireByte_sent (nextTransfer_of_pending hp) bit).trans ((transfer_of_pending hp _ _).trans ?_)
      rw [complete_of_sequence hp hs]
      simp [byteOf, wireOf, openStep, slotAck, hs]
    · intro hp
      refine (execWireByte_received (nextTransfer_of_pending hp) b).trans ((transfer_of_pending hp _ _).trans ?_)
      rw [complete_of_sequence hp hs]
      simp only [byteOf, wireOf, openStep, readAck_decide]
      rfl
    · intro hp hx
      have hexec := execWireByte_sent ((nextTransfer_eq_some_iff hp hs _).mpr hx) bit
      refine ⟨fun hopen => hexec.trans ((transfer_of_sequence hp hs hx hopen _ _).trans ?_), fun hclosed => hexec.trans
        (transfer_of_sequence_refused hp hs hx (by simp [hclosed, Prim.needsOpen]) _ _)⟩
      simp [byteOf, wireOf, openStep, slotAck]
    · intro hp hx
      have hexec := execWireByte_received ((nextTransfer_eq_some_iff hp hs _).mpr hx) b
      refine ⟨fun hopen => hexec.trans ((transfer_of_sequence hp hs hx hopen _ _).trans ?_), fun hclosed => hexec.trans
        (transfer_of_sequence_refused hp hs hx (by simp [hclosed, Prim.needsOpen]) _ _)⟩
      simp only [byteOf, wireOf, openStep, readAck_decide]
      rfl
    · intro hp hsent hreceived
      exact execWireByte_refused (by rwa [Ne, nextTransfer_eq_some_iff hp hs]) (by rwa [Ne, nextTransfer_eq_some_iff hp hs])

/-! ### Bytes of a host between operations -/

/-- A byte the controller sends, its acknowledge bit drawn freely. -/
theorem transferSent_of_atBoundary {s : State} (hb : s.atBoundary = true) (hopen : s.busOpen = true) (b : Byte) :
    transferSent b s = .next { s with
      wire := s.wire ++ [.sent b (Config.freeAck s.drawNo)]
      ret := .ack (Config.freeAck s.drawNo)
      drawNo := s.drawNo + 1 } := by
  have hp := pending_of_atBoundary hb
  rw [transferSent, transfer_of_atBoundary (p := .write b) hb hopen, mapNext_next,
    complete_write_host (s := { s with pending := some (.write b) }) rfl (seq_of_atBoundary (s := s) hb), ← hp]
  rfl

/-- A byte the controller reads. -/
theorem transferReceived_of_atBoundary {s : State} (hb : s.atBoundary = true) (hopen : s.busOpen = true) (v : Byte) (k : Bool) :
    transferReceived v k s = .next { s with wire := s.wire ++ [.received v (readAck k)], ret := .byte v } := by
  have hp := pending_of_atBoundary hb
  rw [transferReceived, transfer_of_atBoundary (p := .read k) hb hopen,
    complete_read_host (s := { s with pending := some (.read k) }) rfl (seq_of_atBoundary (s := s) hb), ← hp]

theorem transferAllSent_one {s : State} (hb : s.atBoundary = true) (hopen : s.busOpen = true) (b : Byte) :
    ∃ a, transferAllSent [b] s = .next { s with wire := s.wire ++ [.sent b a], ret := .ack a, drawNo := s.drawNo + 1 } := by
  refine ⟨Config.freeAck s.drawNo, ?_⟩
  rw [transferAllSent, transferSent_of_atBoundary hb hopen]
  rfl

theorem transferAllSent_two {s : State} (hb : s.atBoundary = true) (hopen : s.busOpen = true) (b c : Byte) :
    ∃ a a', transferAllSent [b, c] s =
      .next { s with wire := s.wire ++ [.sent b a, .sent c a'], ret := .ack a', drawNo := s.drawNo + 2 } := by
  obtain ⟨a', hsecond⟩ := transferAllSent_one (s := { s with
    wire := s.wire ++ [.sent b (Config.freeAck s.drawNo)], ret := .ack (Config.freeAck s.drawNo), drawNo := s.drawNo + 1 })
    hb hopen c
  refine ⟨Config.freeAck s.drawNo, a', ?_⟩
  rw [transferAllSent, transferSent_of_atBoundary hb hopen, andThen_next, hsecond]
  simp

/-- Settles O57: each of the three patterns is one byte sent. -/
theorem wireSingleBytesGoOver : Obligations.WireSingleBytesGoOver := by
  intro s hok hb hopen i b hmem
  have hlit := hok.lit_default
  simp only [List.mem_cons, Prod.mk.injEq, List.not_mem_nil, or_false] at hmem
  obtain ⟨rfl, rfl⟩ | ⟨rfl, rfl⟩ | ⟨rfl, rfl⟩ := hmem
  · exact ⟨_, by rw [exec, execWireAddrW, hlit]; exact transferSent_of_atBoundary hb hopen 0xA4⟩
  · exact ⟨_, by rw [exec, execWireAddrR, hlit]; exact transferSent_of_atBoundary hb hopen 0xA5⟩
  · rw [exec, execWireTrig, hlit]
    exact transferAllSent_one hb hopen 0x00

/-- Settles O58: each of the two payloads is two bytes sent, one after the other. -/
theorem wireInitPayloadsGoOver : Obligations.WireInitPayloadsGoOver := by
  intro s hok hb hopen i b c hmem
  have hlit := hok.lit_default
  simp only [List.mem_cons, Prod.mk.injEq, List.not_mem_nil, or_false] at hmem
  obtain ⟨rfl, rfl, rfl⟩ | ⟨rfl, rfl, rfl⟩ := hmem
  · rw [exec, execWireInit1, hlit]
    exact transferAllSent_two hb hopen 0xF0 0x55
  · rw [exec, execWireInit2, hlit]
    exact transferAllSent_two hb hopen 0xFB 0x00

theorem andThen_of_next {o : Out} {u : State} {f : State → Out} {r : Out} (h : o = .next u) (hf : f u = r) :
    andThen o f = r := by
  rw [h, andThen_next, hf]

/-- Settles O59: the patterns are one byte read and six, each leaving the host between operations with its frame open. -/
theorem wireSampleGoesOver : Obligations.WireSampleGoesOver := by
  intro s x y ax ay az r btn hb hopen
  refine ⟨transferReceived_of_atBoundary hb hopen _ false, ?_⟩
  refine andThen_of_next (transferReceived_of_atBoundary hb hopen x true) ?_
  refine andThen_of_next (transferReceived_of_atBoundary (by exact hb) (by exact hopen) y true) ?_
  refine andThen_of_next (transferReceived_of_atBoundary (by exact hb) (by exact hopen) ax true) ?_
  refine andThen_of_next (transferReceived_of_atBoundary (by exact hb) (by exact hopen) ay true) ?_
  refine andThen_of_next (transferReceived_of_atBoundary (by exact hb) (by exact hopen) az true) ?_
  refine (transferReceived_of_atBoundary (by exact hb) (by exact hopen) (buttonByte r btn) false).trans ?_
  simp only [List.append_assoc, List.cons_append, List.nil_append]
  rfl

/-! ### Bytes of a running sample read -/

theorem buttonCode_buttonByte (r : BitVec 6) (btn : Code2) : buttonCode {} (buttonByte r btn) = btn := by
  revert r btn
  decide

/-- READ_SAMPLE between its address byte and its STOP: after the reads that gave `got`, the next one. -/
theorem transferReceived_of_readSample {s : State} {got : List Byte} (hlit : s.cfg.lit = {}) (hp : s.pending = none)
    (hopen : s.busOpen = true) (hs : s.seq = some { name := .readSample, pos := got.length + 2, got := got }) (v : Byte)
    (k : Bool) (hx : (SeqName.readSample.steps {})[got.length + 2]? = some (.prim (.read k))) :
    transferReceived v k s = .next { s with
      wire := s.wire ++ [.received v (readAck k)]
      seq := some { name := .readSample, pos := got.length + 3, got := got ++ [v] } } :=
  transfer_of_sequence (p := .read k) hp hs (by rw [hlit]; exact hx) hopen .nak v

/-- The sample's pattern inside READ_SAMPLE: its six reads, the sequence keeping their bytes. -/
theorem execWireSample_of_readSample {s : State} (hlit : s.cfg.lit = {}) (hp : s.pending = none) (hopen : s.busOpen = true)
    (hs : s.seq = some { name := .readSample, pos := 2, got := [] }) (x y ax ay az : Byte) (r : BitVec 6) (btn : Code2) :
    execWireSample x y ax ay az r btn s = .next { s with
      wire := s.wire ++ [.received x .ack, .received y .ack, .received ax .ack, .received ay .ack, .received az .ack,
        .received (buttonByte r btn) .nak]
      seq := some { name := .readSample, pos := 8, got := [x, y, ax, ay, az, buttonByte r btn] } } := by
  refine andThen_of_next (transferReceived_of_readSample (got := []) hlit hp hopen hs x true rfl) ?_
  refine andThen_of_next (transferReceived_of_readSample (got := [x]) (by exact hlit) (by exact hp) (by exact hopen)
    rfl y true rfl) ?_
  refine andThen_of_next (transferReceived_of_readSample (got := [x, y]) (by exact hlit) (by exact hp) (by exact hopen)
    rfl ax true rfl) ?_
  refine andThen_of_next (transferReceived_of_readSample (got := [x, y, ax]) (by exact hlit) (by exact hp) (by exact hopen)
    rfl ay true rfl) ?_
  refine andThen_of_next (transferReceived_of_readSample (got := [x, y, ax, ay]) (by exact hlit) (by exact hp) (by exact hopen)
    rfl az true rfl) ?_
  refine (transferReceived_of_readSample (got := [x, y, ax, ay, az]) (by exact hlit) (by exact hp) (by exact hopen)
    rfl (buttonByte r btn) false rfl).trans ?_
  simp only [List.append_assoc, List.cons_append, List.nil_append]
  rfl

/-- A READ_SAMPLE with all its steps done returns the sample of its bytes. -/
theorem turn_readSample_returns {s : State} {got : List Byte} {v : Sample} (hlit : s.cfg.lit = {}) (hp : s.pending = none)
    (hs : s.seq = some { name := .readSample, pos := 9, got := got }) (hv : sampleOf {} got = some v) :
    takeTurn .foreground s = .next { s with seq := none, sample := v, ret := .sample v } := by
  have hx : SeqRun.next s.cfg.lit { name := .readSample, pos := 9, got := got } = none := by
    rw [hlit]
    rfl
  refine (stepForeground_sequence hp hs).trans ?_
  rw [stepSequence, hx]
  simp only [finishSequence, hlit, hv]
  rfl

/-- Settles O60: the six bytes, the STOP driven, and the return with the sixth byte masked. -/
theorem wireSampleBecomesSample : Obligations.WireSampleBecomesSample := by
  intro s x y ax ay az r btn a v hok hp hopen hs
  have hlit := hok.lit_default
  refine ⟨_, execWireSample_of_readSample hlit hp hopen hs x y ax ay az r btn, ?_⟩
  have hstop : SeqRun.next s.cfg.lit
      { name := .readSample, pos := 8, got := [x, y, ax, ay, az, buttonByte r btn] } = some (.prim .stop) := by
    rw [hlit]
    rfl
  refine runTurns_append_of_next (l := driveStep (a, v) (.prim .stop)) (m := [.foreground])
    (driveStep_run (by exact hp) rfl (by exact hstop) (by simp [hopen, legalFrom, Prim.needsOpen])) ?_
  refine runTurns_foreground (turn_readSample_returns (by exact hlit) (by exact hp) rfl
    (congrArg (fun c => some (Sample.mk x y ax ay az c)) (buttonCode_buttonByte r btn))) ?_
  simp only [runTurns_nil, wireOf, openStep, List.append_assoc, List.cons_append, List.nil_append]
  rfl

end Sys2Proof.Machine
end
